-- ==== Sys2Proof/Word.lean ====
section
/-! DEFINITION. The words of the block: 64-bit register slots (spec/10_state.md R27) and memory bytes
(spec/20_memory.md R60). Everything computed on them stands in Machine/. -/

namespace Sys2Proof

/-- A 64-bit word: a register slot, a stream word, a raw draw (R9, R23, R26). -/
abbrev Word := BitVec 64

/-- One byte of data memory (R60). -/
abbrev Byte := BitVec 8

/-- A 32-bit command word (R80). -/
abbrev Command := BitVec 32

end Sys2Proof
end

