-- ==== Sys2Proof/Syntax.lean ====
section
/-! DEFINITION. The commands of the block: one constructor of `Instr` for each of the 308 rows of
spec/opcode_table.json (spec/30_encoding.md R84 to R88), and the combination of features each of them
stands for (`Form`, R81, R82, R100, R101). -/

namespace Sys2Proof

/-- Rounding mode, the `mode` field (R81): stochastic rounding or up-down rounding (R1). -/
inductive Mode where
  | sr
  | ud
deriving DecidableEq, Repr

/-- Numeric kind, the `kind` field (R15, R81). -/
inductive Kind where
  | f32
  | f64
deriving DecidableEq, Repr

/-- Flavor, the `flv` field (R81): none (scalar), static, dynamic. The value 3 is reserved. -/
inductive Flavor where
  | none
  | static
  | dynamic
deriving DecidableEq, Repr

/-- Operation of the classes `ARITH` and `ARRAY` (R84, R85). -/
inductive Op where
  | add
  | sub
  | mul
  | div
  | sqrt
  | fma
deriving DecidableEq, Repr

/-- Operation of the class `PRIM` (R86). -/
inductive PrimOp where
  | twosum
  | twoprod
  | srround
  | udround
deriving DecidableEq, Repr

/-- Operation of the class `RNG` (R87). -/
inductive RngOp where
  | seed
  | next
  | uniform
  | jump
  | ljump
deriving DecidableEq, Repr

/-- Operation of the class `SYS` (R88). -/
inductive SysOp where
  | nop
  | probe
deriving DecidableEq, Repr

/-- What a command word's fields say (R81 to R88); `lw` is log2 of the lane count `W`. A form need not be
legal: `Form.wellFormed` says which are. -/
inductive Form where
  | arith (mode : Mode) (flv : Flavor) (kind : Kind) (lw : Nat) (op : Op)
  | array (mode : Mode) (kind : Kind) (op : Op)
  | prim (kind : Kind) (lw : Nat) (op : PrimOp)
  | rng (op : RngOp) (kind : Kind) (lw : Nat)
  | sys (op : SysOp)
deriving DecidableEq, Repr

/-- The 308 commands (R89, R93). No command has an operand field (R91). -/
inductive Instr where
  | srScalarAddF32
  | srScalarSubF32
  | srScalarMulF32
  | srScalarDivF32
  | srScalarSqrtF32
  | srScalarFmaF32
  | srScalarAddF64
  | srScalarSubF64
  | srScalarMulF64
  | srScalarDivF64
  | srScalarSqrtF64
  | srScalarFmaF64
  | srVectorAddF32X2Static
  | srVectorSubF32X2Static
  | srVectorMulF32X2Static
  | srVectorDivF32X2Static
  | srVectorSqrtF32X2Static
  | srVectorFmaF32X2Static
  | srVectorAddF32X4Static
  | srVectorSubF32X4Static
  | srVectorMulF32X4Static
  | srVectorDivF32X4Static
  | srVectorSqrtF32X4Static
  | srVectorFmaF32X4Static
  | srVectorAddF32X8Static
  | srVectorSubF32X8Static
  | srVectorMulF32X8Static
  | srVectorDivF32X8Static
  | srVectorSqrtF32X8Static
  | srVectorFmaF32X8Static
  | srVectorAddF32X16Static
  | srVectorSubF32X16Static
  | srVectorMulF32X16Static
  | srVectorDivF32X16Static
  | srVectorSqrtF32X16Static
  | srVectorFmaF32X16Static
  | srVectorAddF64X2Static
  | srVectorSubF64X2Static
  | srVectorMulF64X2Static
  | srVectorDivF64X2Static
  | srVectorSqrtF64X2Static
  | srVectorFmaF64X2Static
  | srVectorAddF64X4Static
  | srVectorSubF64X4Static
  | srVectorMulF64X4Static
  | srVectorDivF64X4Static
  | srVectorSqrtF64X4Static
  | srVectorFmaF64X4Static
  | srVectorAddF64X8Static
  | srVectorSubF64X8Static
  | srVectorMulF64X8Static
  | srVectorDivF64X8Static
  | srVectorSqrtF64X8Static
  | srVectorFmaF64X8Static
  | srVectorAddF64X16Static
  | srVectorSubF64X16Static
  | srVectorMulF64X16Static
  | srVectorDivF64X16Static
  | srVectorSqrtF64X16Static
  | srVectorFmaF64X16Static
  | srVectorAddF32X2Dynamic
  | srVectorSubF32X2Dynamic
  | srVectorMulF32X2Dynamic
  | srVectorDivF32X2Dynamic
  | srVectorSqrtF32X2Dynamic
  | srVectorFmaF32X2Dynamic
  | srVectorAddF32X4Dynamic
  | srVectorSubF32X4Dynamic
  | srVectorMulF32X4Dynamic
  | srVectorDivF32X4Dynamic
  | srVectorSqrtF32X4Dynamic
  | srVectorFmaF32X4Dynamic
  | srVectorAddF32X8Dynamic
  | srVectorSubF32X8Dynamic
  | srVectorMulF32X8Dynamic
  | srVectorDivF32X8Dynamic
  | srVectorSqrtF32X8Dynamic
  | srVectorFmaF32X8Dynamic
  | srVectorAddF32X16Dynamic
  | srVectorSubF32X16Dynamic
  | srVectorMulF32X16Dynamic
  | srVectorDivF32X16Dynamic
  | srVectorSqrtF32X16Dynamic
  | srVectorFmaF32X16Dynamic
  | srVectorAddF64X2Dynamic
  | srVectorSubF64X2Dynamic
  | srVectorMulF64X2Dynamic
  | srVectorDivF64X2Dynamic
  | srVectorSqrtF64X2Dynamic
  | srVectorFmaF64X2Dynamic
  | srVectorAddF64X4Dynamic
  | srVectorSubF64X4Dynamic
  | srVectorMulF64X4Dynamic
  | srVectorDivF64X4Dynamic
  | srVectorSqrtF64X4Dynamic
  | srVectorFmaF64X4Dynamic
  | srVectorAddF64X8Dynamic
  | srVectorSubF64X8Dynamic
  | srVectorMulF64X8Dynamic
  | srVectorDivF64X8Dynamic
  | srVectorSqrtF64X8Dynamic
  | srVectorFmaF64X8Dynamic
  | srVectorAddF64X16Dynamic
  | srVectorSubF64X16Dynamic
  | srVectorMulF64X16Dynamic
  | srVectorDivF64X16Dynamic
  | srVectorSqrtF64X16Dynamic
  | srVectorFmaF64X16Dynamic
  | udScalarAddF32
  | udScalarSubF32
  | udScalarMulF32
  | udScalarDivF32
  | udScalarSqrtF32
  | udScalarFmaF32
  | udScalarAddF64
  | udScalarSubF64
  | udScalarMulF64
  | udScalarDivF64
  | udScalarSqrtF64
  | udScalarFmaF64
  | udVectorAddF32X2Static
  | udVectorSubF32X2Static
  | udVectorMulF32X2Static
  | udVectorDivF32X2Static
  | udVectorSqrtF32X2Static
  | udVectorFmaF32X2Static
  | udVectorAddF32X4Static
  | udVectorSubF32X4Static
  | udVectorMulF32X4Static
  | udVectorDivF32X4Static
  | udVectorSqrtF32X4Static
  | udVectorFmaF32X4Static
  | udVectorAddF32X8Static
  | udVectorSubF32X8Static
  | udVectorMulF32X8Static
  | udVectorDivF32X8Static
  | udVectorSqrtF32X8Static
  | udVectorFmaF32X8Static
  | udVectorAddF32X16Static
  | udVectorSubF32X16Static
  | udVectorMulF32X16Static
  | udVectorDivF32X16Static
  | udVectorSqrtF32X16Static
  | udVectorFmaF32X16Static
  | udVectorAddF64X2Static
  | udVectorSubF64X2Static
  | udVectorMulF64X2Static
  | udVectorDivF64X2Static
  | udVectorSqrtF64X2Static
  | udVectorFmaF64X2Static
  | udVectorAddF64X4Static
  | udVectorSubF64X4Static
  | udVectorMulF64X4Static
  | udVectorDivF64X4Static
  | udVectorSqrtF64X4Static
  | udVectorFmaF64X4Static
  | udVectorAddF64X8Static
  | udVectorSubF64X8Static
  | udVectorMulF64X8Static
  | udVectorDivF64X8Static
  | udVectorSqrtF64X8Static
  | udVectorFmaF64X8Static
  | udVectorAddF64X16Static
  | udVectorSubF64X16Static
  | udVectorMulF64X16Static
  | udVectorDivF64X16Static
  | udVectorSqrtF64X16Static
  | udVectorFmaF64X16Static
  | udVectorAddF32X2Dynamic
  | udVectorSubF32X2Dynamic
  | udVectorMulF32X2Dynamic
  | udVectorDivF32X2Dynamic
  | udVectorSqrtF32X2Dynamic
  | udVectorFmaF32X2Dynamic
  | udVectorAddF32X4Dynamic
  | udVectorSubF32X4Dynamic
  | udVectorMulF32X4Dynamic
  | udVectorDivF32X4Dynamic
  | udVectorSqrtF32X4Dynamic
  | udVectorFmaF32X4Dynamic
  | udVectorAddF32X8Dynamic
  | udVectorSubF32X8Dynamic
  | udVectorMulF32X8Dynamic
  | udVectorDivF32X8Dynamic
  | udVectorSqrtF32X8Dynamic
  | udVectorFmaF32X8Dynamic
  | udVectorAddF32X16Dynamic
  | udVectorSubF32X16Dynamic
  | udVectorMulF32X16Dynamic
  | udVectorDivF32X16Dynamic
  | udVectorSqrtF32X16Dynamic
  | udVectorFmaF32X16Dynamic
  | udVectorAddF64X2Dynamic
  | udVectorSubF64X2Dynamic
  | udVectorMulF64X2Dynamic
  | udVectorDivF64X2Dynamic
  | udVectorSqrtF64X2Dynamic
  | udVectorFmaF64X2Dynamic
  | udVectorAddF64X4Dynamic
  | udVectorSubF64X4Dynamic
  | udVectorMulF64X4Dynamic
  | udVectorDivF64X4Dynamic
  | udVectorSqrtF64X4Dynamic
  | udVectorFmaF64X4Dynamic
  | udVectorAddF64X8Dynamic
  | udVectorSubF64X8Dynamic
  | udVectorMulF64X8Dynamic
  | udVectorDivF64X8Dynamic
  | udVectorSqrtF64X8Dynamic
  | udVectorFmaF64X8Dynamic
  | udVectorAddF64X16Dynamic
  | udVectorSubF64X16Dynamic
  | udVectorMulF64X16Dynamic
  | udVectorDivF64X16Dynamic
  | udVectorSqrtF64X16Dynamic
  | udVectorFmaF64X16Dynamic
  | srArrayAddF32
  | srArraySubF32
  | srArrayMulF32
  | srArrayDivF32
  | srArraySqrtF32
  | srArrayFmaF32
  | srArrayAddF64
  | srArraySubF64
  | srArrayMulF64
  | srArrayDivF64
  | srArraySqrtF64
  | srArrayFmaF64
  | udArrayAddF32
  | udArraySubF32
  | udArrayMulF32
  | udArrayDivF32
  | udArraySqrtF32
  | udArrayFmaF32
  | udArrayAddF64
  | udArraySubF64
  | udArrayMulF64
  | udArrayDivF64
  | udArraySqrtF64
  | udArrayFmaF64
  | primTwosumF32
  | primTwoprodF32
  | primSrroundF32
  | primUdroundF32
  | primTwosumF32X2
  | primTwoprodF32X2
  | primSrroundF32X2
  | primUdroundF32X2
  | primTwosumF32X4
  | primTwoprodF32X4
  | primSrroundF32X4
  | primUdroundF32X4
  | primTwosumF32X8
  | primTwoprodF32X8
  | primSrroundF32X8
  | primUdroundF32X8
  | primTwosumF32X16
  | primTwoprodF32X16
  | primSrroundF32X16
  | primUdroundF32X16
  | primTwosumF64
  | primTwoprodF64
  | primSrroundF64
  | primUdroundF64
  | primTwosumF64X2
  | primTwoprodF64X2
  | primSrroundF64X2
  | primUdroundF64X2
  | primTwosumF64X4
  | primTwoprodF64X4
  | primSrroundF64X4
  | primUdroundF64X4
  | primTwosumF64X8
  | primTwoprodF64X8
  | primSrroundF64X8
  | primUdroundF64X8
  | primTwosumF64X16
  | primTwoprodF64X16
  | primSrroundF64X16
  | primUdroundF64X16
  | rngSeed
  | rngNext
  | rngUniformF32
  | rngJump
  | rngLjump
  | rngNextX2
  | rngUniformF32X2
  | rngJumpX2
  | rngLjumpX2
  | rngNextX4
  | rngUniformF32X4
  | rngJumpX4
  | rngLjumpX4
  | rngNextX8
  | rngUniformF32X8
  | rngJumpX8
  | rngLjumpX8
  | rngNextX16
  | rngUniformF32X16
  | rngJumpX16
  | rngLjumpX16
  | rngUniformF64
  | rngUniformF64X2
  | rngUniformF64X4
  | rngUniformF64X8
  | rngUniformF64X16
  | sysNop
  | sysProbe
deriving DecidableEq, Repr

/-- The combination of features a command stands for: its row of the opcode map (R84 to R88). -/
def Instr.form : Instr → Form
  | .srScalarAddF32 => .arith .sr .none .f32 0 .add
  | .srScalarSubF32 => .arith .sr .none .f32 0 .sub
  | .srScalarMulF32 => .arith .sr .none .f32 0 .mul
  | .srScalarDivF32 => .arith .sr .none .f32 0 .div
  | .srScalarSqrtF32 => .arith .sr .none .f32 0 .sqrt
  | .srScalarFmaF32 => .arith .sr .none .f32 0 .fma
  | .srScalarAddF64 => .arith .sr .none .f64 0 .add
  | .srScalarSubF64 => .arith .sr .none .f64 0 .sub
  | .srScalarMulF64 => .arith .sr .none .f64 0 .mul
  | .srScalarDivF64 => .arith .sr .none .f64 0 .div
  | .srScalarSqrtF64 => .arith .sr .none .f64 0 .sqrt
  | .srScalarFmaF64 => .arith .sr .none .f64 0 .fma
  | .srVectorAddF32X2Static => .arith .sr .static .f32 1 .add
  | .srVectorSubF32X2Static => .arith .sr .static .f32 1 .sub
  | .srVectorMulF32X2Static => .arith .sr .static .f32 1 .mul
  | .srVectorDivF32X2Static => .arith .sr .static .f32 1 .div
  | .srVectorSqrtF32X2Static => .arith .sr .static .f32 1 .sqrt
  | .srVectorFmaF32X2Static => .arith .sr .static .f32 1 .fma
  | .srVectorAddF32X4Static => .arith .sr .static .f32 2 .add
  | .srVectorSubF32X4Static => .arith .sr .static .f32 2 .sub
  | .srVectorMulF32X4Static => .arith .sr .static .f32 2 .mul
  | .srVectorDivF32X4Static => .arith .sr .static .f32 2 .div
  | .srVectorSqrtF32X4Static => .arith .sr .static .f32 2 .sqrt
  | .srVectorFmaF32X4Static => .arith .sr .static .f32 2 .fma
  | .srVectorAddF32X8Static => .arith .sr .static .f32 3 .add
  | .srVectorSubF32X8Static => .arith .sr .static .f32 3 .sub
  | .srVectorMulF32X8Static => .arith .sr .static .f32 3 .mul
  | .srVectorDivF32X8Static => .arith .sr .static .f32 3 .div
  | .srVectorSqrtF32X8Static => .arith .sr .static .f32 3 .sqrt
  | .srVectorFmaF32X8Static => .arith .sr .static .f32 3 .fma
  | .srVectorAddF32X16Static => .arith .sr .static .f32 4 .add
  | .srVectorSubF32X16Static => .arith .sr .static .f32 4 .sub
  | .srVectorMulF32X16Static => .arith .sr .static .f32 4 .mul
  | .srVectorDivF32X16Static => .arith .sr .static .f32 4 .div
  | .srVectorSqrtF32X16Static => .arith .sr .static .f32 4 .sqrt
  | .srVectorFmaF32X16Static => .arith .sr .static .f32 4 .fma
  | .srVectorAddF64X2Static => .arith .sr .static .f64 1 .add
  | .srVectorSubF64X2Static => .arith .sr .static .f64 1 .sub
  | .srVectorMulF64X2Static => .arith .sr .static .f64 1 .mul
  | .srVectorDivF64X2Static => .arith .sr .static .f64 1 .div
  | .srVectorSqrtF64X2Static => .arith .sr .static .f64 1 .sqrt
  | .srVectorFmaF64X2Static => .arith .sr .static .f64 1 .fma
  | .srVectorAddF64X4Static => .arith .sr .static .f64 2 .add
  | .srVectorSubF64X4Static => .arith .sr .static .f64 2 .sub
  | .srVectorMulF64X4Static => .arith .sr .static .f64 2 .mul
  | .srVectorDivF64X4Static => .arith .sr .static .f64 2 .div
  | .srVectorSqrtF64X4Static => .arith .sr .static .f64 2 .sqrt
  | .srVectorFmaF64X4Static => .arith .sr .static .f64 2 .fma
  | .srVectorAddF64X8Static => .arith .sr .static .f64 3 .add
  | .srVectorSubF64X8Static => .arith .sr .static .f64 3 .sub
  | .srVectorMulF64X8Static => .arith .sr .static .f64 3 .mul
  | .srVectorDivF64X8Static => .arith .sr .static .f64 3 .div
  | .srVectorSqrtF64X8Static => .arith .sr .static .f64 3 .sqrt
  | .srVectorFmaF64X8Static => .arith .sr .static .f64 3 .fma
  | .srVectorAddF64X16Static => .arith .sr .static .f64 4 .add
  | .srVectorSubF64X16Static => .arith .sr .static .f64 4 .sub
  | .srVectorMulF64X16Static => .arith .sr .static .f64 4 .mul
  | .srVectorDivF64X16Static => .arith .sr .static .f64 4 .div
  | .srVectorSqrtF64X16Static => .arith .sr .static .f64 4 .sqrt
  | .srVectorFmaF64X16Static => .arith .sr .static .f64 4 .fma
  | .srVectorAddF32X2Dynamic => .arith .sr .dynamic .f32 1 .add
  | .srVectorSubF32X2Dynamic => .arith .sr .dynamic .f32 1 .sub
  | .srVectorMulF32X2Dynamic => .arith .sr .dynamic .f32 1 .mul
  | .srVectorDivF32X2Dynamic => .arith .sr .dynamic .f32 1 .div
  | .srVectorSqrtF32X2Dynamic => .arith .sr .dynamic .f32 1 .sqrt
  | .srVectorFmaF32X2Dynamic => .arith .sr .dynamic .f32 1 .fma
  | .srVectorAddF32X4Dynamic => .arith .sr .dynamic .f32 2 .add
  | .srVectorSubF32X4Dynamic => .arith .sr .dynamic .f32 2 .sub
  | .srVectorMulF32X4Dynamic => .arith .sr .dynamic .f32 2 .mul
  | .srVectorDivF32X4Dynamic => .arith .sr .dynamic .f32 2 .div
  | .srVectorSqrtF32X4Dynamic => .arith .sr .dynamic .f32 2 .sqrt
  | .srVectorFmaF32X4Dynamic => .arith .sr .dynamic .f32 2 .fma
  | .srVectorAddF32X8Dynamic => .arith .sr .dynamic .f32 3 .add
  | .srVectorSubF32X8Dynamic => .arith .sr .dynamic .f32 3 .sub
  | .srVectorMulF32X8Dynamic => .arith .sr .dynamic .f32 3 .mul
  | .srVectorDivF32X8Dynamic => .arith .sr .dynamic .f32 3 .div
  | .srVectorSqrtF32X8Dynamic => .arith .sr .dynamic .f32 3 .sqrt
  | .srVectorFmaF32X8Dynamic => .arith .sr .dynamic .f32 3 .fma
  | .srVectorAddF32X16Dynamic => .arith .sr .dynamic .f32 4 .add
  | .srVectorSubF32X16Dynamic => .arith .sr .dynamic .f32 4 .sub
  | .srVectorMulF32X16Dynamic => .arith .sr .dynamic .f32 4 .mul
  | .srVectorDivF32X16Dynamic => .arith .sr .dynamic .f32 4 .div
  | .srVectorSqrtF32X16Dynamic => .arith .sr .dynamic .f32 4 .sqrt
  | .srVectorFmaF32X16Dynamic => .arith .sr .dynamic .f32 4 .fma
  | .srVectorAddF64X2Dynamic => .arith .sr .dynamic .f64 1 .add
  | .srVectorSubF64X2Dynamic => .arith .sr .dynamic .f64 1 .sub
  | .srVectorMulF64X2Dynamic => .arith .sr .dynamic .f64 1 .mul
  | .srVectorDivF64X2Dynamic => .arith .sr .dynamic .f64 1 .div
  | .srVectorSqrtF64X2Dynamic => .arith .sr .dynamic .f64 1 .sqrt
  | .srVectorFmaF64X2Dynamic => .arith .sr .dynamic .f64 1 .fma
  | .srVectorAddF64X4Dynamic => .arith .sr .dynamic .f64 2 .add
  | .srVectorSubF64X4Dynamic => .arith .sr .dynamic .f64 2 .sub
  | .srVectorMulF64X4Dynamic => .arith .sr .dynamic .f64 2 .mul
  | .srVectorDivF64X4Dynamic => .arith .sr .dynamic .f64 2 .div
  | .srVectorSqrtF64X4Dynamic => .arith .sr .dynamic .f64 2 .sqrt
  | .srVectorFmaF64X4Dynamic => .arith .sr .dynamic .f64 2 .fma
  | .srVectorAddF64X8Dynamic => .arith .sr .dynamic .f64 3 .add
  | .srVectorSubF64X8Dynamic => .arith .sr .dynamic .f64 3 .sub
  | .srVectorMulF64X8Dynamic => .arith .sr .dynamic .f64 3 .mul
  | .srVectorDivF64X8Dynamic => .arith .sr .dynamic .f64 3 .div
  | .srVectorSqrtF64X8Dynamic => .arith .sr .dynamic .f64 3 .sqrt
  | .srVectorFmaF64X8Dynamic => .arith .sr .dynamic .f64 3 .fma
  | .srVectorAddF64X16Dynamic => .arith .sr .dynamic .f64 4 .add
  | .srVectorSubF64X16Dynamic => .arith .sr .dynamic .f64 4 .sub
  | .srVectorMulF64X16Dynamic => .arith .sr .dynamic .f64 4 .mul
  | .srVectorDivF64X16Dynamic => .arith .sr .dynamic .f64 4 .div
  | .srVectorSqrtF64X16Dynamic => .arith .sr .dynamic .f64 4 .sqrt
  | .srVectorFmaF64X16Dynamic => .arith .sr .dynamic .f64 4 .fma
  | .udScalarAddF32 => .arith .ud .none .f32 0 .add
  | .udScalarSubF32 => .arith .ud .none .f32 0 .sub
  | .udScalarMulF32 => .arith .ud .none .f32 0 .mul
  | .udScalarDivF32 => .arith .ud .none .f32 0 .div
  | .udScalarSqrtF32 => .arith .ud .none .f32 0 .sqrt
  | .udScalarFmaF32 => .arith .ud .none .f32 0 .fma
  | .udScalarAddF64 => .arith .ud .none .f64 0 .add
  | .udScalarSubF64 => .arith .ud .none .f64 0 .sub
  | .udScalarMulF64 => .arith .ud .none .f64 0 .mul
  | .udScalarDivF64 => .arith .ud .none .f64 0 .div
  | .udScalarSqrtF64 => .arith .ud .none .f64 0 .sqrt
  | .udScalarFmaF64 => .arith .ud .none .f64 0 .fma
  | .udVectorAddF32X2Static => .arith .ud .static .f32 1 .add
  | .udVectorSubF32X2Static => .arith .ud .static .f32 1 .sub
  | .udVectorMulF32X2Static => .arith .ud .static .f32 1 .mul
  | .udVectorDivF32X2Static => .arith .ud .static .f32 1 .div
  | .udVectorSqrtF32X2Static => .arith .ud .static .f32 1 .sqrt
  | .udVectorFmaF32X2Static => .arith .ud .static .f32 1 .fma
  | .udVectorAddF32X4Static => .arith .ud .static .f32 2 .add
  | .udVectorSubF32X4Static => .arith .ud .static .f32 2 .sub
  | .udVectorMulF32X4Static => .arith .ud .static .f32 2 .mul
  | .udVectorDivF32X4Static => .arith .ud .static .f32 2 .div
  | .udVectorSqrtF32X4Static => .arith .ud .static .f32 2 .sqrt
  | .udVectorFmaF32X4Static => .arith .ud .static .f32 2 .fma
  | .udVectorAddF32X8Static => .arith .ud .static .f32 3 .add
  | .udVectorSubF32X8Static => .arith .ud .static .f32 3 .sub
  | .udVectorMulF32X8Static => .arith .ud .static .f32 3 .mul
  | .udVectorDivF32X8Static => .arith .ud .static .f32 3 .div
  | .udVectorSqrtF32X8Static => .arith .ud .static .f32 3 .sqrt
  | .udVectorFmaF32X8Static => .arith .ud .static .f32 3 .fma
  | .udVectorAddF32X16Static => .arith .ud .static .f32 4 .add
  | .udVectorSubF32X16Static => .arith .ud .static .f32 4 .sub
  | .udVectorMulF32X16Static => .arith .ud .static .f32 4 .mul
  | .udVectorDivF32X16Static => .arith .ud .static .f32 4 .div
  | .udVectorSqrtF32X16Static => .arith .ud .static .f32 4 .sqrt
  | .udVectorFmaF32X16Static => .arith .ud .static .f32 4 .fma
  | .udVectorAddF64X2Static => .arith .ud .static .f64 1 .add
  | .udVectorSubF64X2Static => .arith .ud .static .f64 1 .sub
  | .udVectorMulF64X2Static => .arith .ud .static .f64 1 .mul
  | .udVectorDivF64X2Static => .arith .ud .static .f64 1 .div
  | .udVectorSqrtF64X2Static => .arith .ud .static .f64 1 .sqrt
  | .udVectorFmaF64X2Static => .arith .ud .static .f64 1 .fma
  | .udVectorAddF64X4Static => .arith .ud .static .f64 2 .add
  | .udVectorSubF64X4Static => .arith .ud .static .f64 2 .sub
  | .udVectorMulF64X4Static => .arith .ud .static .f64 2 .mul
  | .udVectorDivF64X4Static => .arith .ud .static .f64 2 .div
  | .udVectorSqrtF64X4Static => .arith .ud .static .f64 2 .sqrt
  | .udVectorFmaF64X4Static => .arith .ud .static .f64 2 .fma
  | .udVectorAddF64X8Static => .arith .ud .static .f64 3 .add
  | .udVectorSubF64X8Static => .arith .ud .static .f64 3 .sub
  | .udVectorMulF64X8Static => .arith .ud .static .f64 3 .mul
  | .udVectorDivF64X8Static => .arith .ud .static .f64 3 .div
  | .udVectorSqrtF64X8Static => .arith .ud .static .f64 3 .sqrt
  | .udVectorFmaF64X8Static => .arith .ud .static .f64 3 .fma
  | .udVectorAddF64X16Static => .arith .ud .static .f64 4 .add
  | .udVectorSubF64X16Static => .arith .ud .static .f64 4 .sub
  | .udVectorMulF64X16Static => .arith .ud .static .f64 4 .mul
  | .udVectorDivF64X16Static => .arith .ud .static .f64 4 .div
  | .udVectorSqrtF64X16Static => .arith .ud .static .f64 4 .sqrt
  | .udVectorFmaF64X16Static => .arith .ud .static .f64 4 .fma
  | .udVectorAddF32X2Dynamic => .arith .ud .dynamic .f32 1 .add
  | .udVectorSubF32X2Dynamic => .arith .ud .dynamic .f32 1 .sub
  | .udVectorMulF32X2Dynamic => .arith .ud .dynamic .f32 1 .mul
  | .udVectorDivF32X2Dynamic => .arith .ud .dynamic .f32 1 .div
  | .udVectorSqrtF32X2Dynamic => .arith .ud .dynamic .f32 1 .sqrt
  | .udVectorFmaF32X2Dynamic => .arith .ud .dynamic .f32 1 .fma
  | .udVectorAddF32X4Dynamic => .arith .ud .dynamic .f32 2 .add
  | .udVectorSubF32X4Dynamic => .arith .ud .dynamic .f32 2 .sub
  | .udVectorMulF32X4Dynamic => .arith .ud .dynamic .f32 2 .mul
  | .udVectorDivF32X4Dynamic => .arith .ud .dynamic .f32 2 .div
  | .udVectorSqrtF32X4Dynamic => .arith .ud .dynamic .f32 2 .sqrt
  | .udVectorFmaF32X4Dynamic => .arith .ud .dynamic .f32 2 .fma
  | .udVectorAddF32X8Dynamic => .arith .ud .dynamic .f32 3 .add
  | .udVectorSubF32X8Dynamic => .arith .ud .dynamic .f32 3 .sub
  | .udVectorMulF32X8Dynamic => .arith .ud .dynamic .f32 3 .mul
  | .udVectorDivF32X8Dynamic => .arith .ud .dynamic .f32 3 .div
  | .udVectorSqrtF32X8Dynamic => .arith .ud .dynamic .f32 3 .sqrt
  | .udVectorFmaF32X8Dynamic => .arith .ud .dynamic .f32 3 .fma
  | .udVectorAddF32X16Dynamic => .arith .ud .dynamic .f32 4 .add
  | .udVectorSubF32X16Dynamic => .arith .ud .dynamic .f32 4 .sub
  | .udVectorMulF32X16Dynamic => .arith .ud .dynamic .f32 4 .mul
  | .udVectorDivF32X16Dynamic => .arith .ud .dynamic .f32 4 .div
  | .udVectorSqrtF32X16Dynamic => .arith .ud .dynamic .f32 4 .sqrt
  | .udVectorFmaF32X16Dynamic => .arith .ud .dynamic .f32 4 .fma
  | .udVectorAddF64X2Dynamic => .arith .ud .dynamic .f64 1 .add
  | .udVectorSubF64X2Dynamic => .arith .ud .dynamic .f64 1 .sub
  | .udVectorMulF64X2Dynamic => .arith .ud .dynamic .f64 1 .mul
  | .udVectorDivF64X2Dynamic => .arith .ud .dynamic .f64 1 .div
  | .udVectorSqrtF64X2Dynamic => .arith .ud .dynamic .f64 1 .sqrt
  | .udVectorFmaF64X2Dynamic => .arith .ud .dynamic .f64 1 .fma
  | .udVectorAddF64X4Dynamic => .arith .ud .dynamic .f64 2 .add
  | .udVectorSubF64X4Dynamic => .arith .ud .dynamic .f64 2 .sub
  | .udVectorMulF64X4Dynamic => .arith .ud .dynamic .f64 2 .mul
  | .udVectorDivF64X4Dynamic => .arith .ud .dynamic .f64 2 .div
  | .udVectorSqrtF64X4Dynamic => .arith .ud .dynamic .f64 2 .sqrt
  | .udVectorFmaF64X4Dynamic => .arith .ud .dynamic .f64 2 .fma
  | .udVectorAddF64X8Dynamic => .arith .ud .dynamic .f64 3 .add
  | .udVectorSubF64X8Dynamic => .arith .ud .dynamic .f64 3 .sub
  | .udVectorMulF64X8Dynamic => .arith .ud .dynamic .f64 3 .mul
  | .udVectorDivF64X8Dynamic => .arith .ud .dynamic .f64 3 .div
  | .udVectorSqrtF64X8Dynamic => .arith .ud .dynamic .f64 3 .sqrt
  | .udVectorFmaF64X8Dynamic => .arith .ud .dynamic .f64 3 .fma
  | .udVectorAddF64X16Dynamic => .arith .ud .dynamic .f64 4 .add
  | .udVectorSubF64X16Dynamic => .arith .ud .dynamic .f64 4 .sub
  | .udVectorMulF64X16Dynamic => .arith .ud .dynamic .f64 4 .mul
  | .udVectorDivF64X16Dynamic => .arith .ud .dynamic .f64 4 .div
  | .udVectorSqrtF64X16Dynamic => .arith .ud .dynamic .f64 4 .sqrt
  | .udVectorFmaF64X16Dynamic => .arith .ud .dynamic .f64 4 .fma
  | .srArrayAddF32 => .array .sr .f32 .add
  | .srArraySubF32 => .array .sr .f32 .sub
  | .srArrayMulF32 => .array .sr .f32 .mul
  | .srArrayDivF32 => .array .sr .f32 .div
  | .srArraySqrtF32 => .array .sr .f32 .sqrt
  | .srArrayFmaF32 => .array .sr .f32 .fma
  | .srArrayAddF64 => .array .sr .f64 .add
  | .srArraySubF64 => .array .sr .f64 .sub
  | .srArrayMulF64 => .array .sr .f64 .mul
  | .srArrayDivF64 => .array .sr .f64 .div
  | .srArraySqrtF64 => .array .sr .f64 .sqrt
  | .srArrayFmaF64 => .array .sr .f64 .fma
  | .udArrayAddF32 => .array .ud .f32 .add
  | .udArraySubF32 => .array .ud .f32 .sub
  | .udArrayMulF32 => .array .ud .f32 .mul
  | .udArrayDivF32 => .array .ud .f32 .div
  | .udArraySqrtF32 => .array .ud .f32 .sqrt
  | .udArrayFmaF32 => .array .ud .f32 .fma
  | .udArrayAddF64 => .array .ud .f64 .add
  | .udArraySubF64 => .array .ud .f64 .sub
  | .udArrayMulF64 => .array .ud .f64 .mul
  | .udArrayDivF64 => .array .ud .f64 .div
  | .udArraySqrtF64 => .array .ud .f64 .sqrt
  | .udArrayFmaF64 => .array .ud .f64 .fma
  | .primTwosumF32 => .prim .f32 0 .twosum
  | .primTwoprodF32 => .prim .f32 0 .twoprod
  | .primSrroundF32 => .prim .f32 0 .srround
  | .primUdroundF32 => .prim .f32 0 .udround
  | .primTwosumF32X2 => .prim .f32 1 .twosum
  | .primTwoprodF32X2 => .prim .f32 1 .twoprod
  | .primSrroundF32X2 => .prim .f32 1 .srround
  | .primUdroundF32X2 => .prim .f32 1 .udround
  | .primTwosumF32X4 => .prim .f32 2 .twosum
  | .primTwoprodF32X4 => .prim .f32 2 .twoprod
  | .primSrroundF32X4 => .prim .f32 2 .srround
  | .primUdroundF32X4 => .prim .f32 2 .udround
  | .primTwosumF32X8 => .prim .f32 3 .twosum
  | .primTwoprodF32X8 => .prim .f32 3 .twoprod
  | .primSrroundF32X8 => .prim .f32 3 .srround
  | .primUdroundF32X8 => .prim .f32 3 .udround
  | .primTwosumF32X16 => .prim .f32 4 .twosum
  | .primTwoprodF32X16 => .prim .f32 4 .twoprod
  | .primSrroundF32X16 => .prim .f32 4 .srround
  | .primUdroundF32X16 => .prim .f32 4 .udround
  | .primTwosumF64 => .prim .f64 0 .twosum
  | .primTwoprodF64 => .prim .f64 0 .twoprod
  | .primSrroundF64 => .prim .f64 0 .srround
  | .primUdroundF64 => .prim .f64 0 .udround
  | .primTwosumF64X2 => .prim .f64 1 .twosum
  | .primTwoprodF64X2 => .prim .f64 1 .twoprod
  | .primSrroundF64X2 => .prim .f64 1 .srround
  | .primUdroundF64X2 => .prim .f64 1 .udround
  | .primTwosumF64X4 => .prim .f64 2 .twosum
  | .primTwoprodF64X4 => .prim .f64 2 .twoprod
  | .primSrroundF64X4 => .prim .f64 2 .srround
  | .primUdroundF64X4 => .prim .f64 2 .udround
  | .primTwosumF64X8 => .prim .f64 3 .twosum
  | .primTwoprodF64X8 => .prim .f64 3 .twoprod
  | .primSrroundF64X8 => .prim .f64 3 .srround
  | .primUdroundF64X8 => .prim .f64 3 .udround
  | .primTwosumF64X16 => .prim .f64 4 .twosum
  | .primTwoprodF64X16 => .prim .f64 4 .twoprod
  | .primSrroundF64X16 => .prim .f64 4 .srround
  | .primUdroundF64X16 => .prim .f64 4 .udround
  | .rngSeed => .rng .seed .f32 0
  | .rngNext => .rng .next .f32 0
  | .rngUniformF32 => .rng .uniform .f32 0
  | .rngJump => .rng .jump .f32 0
  | .rngLjump => .rng .ljump .f32 0
  | .rngNextX2 => .rng .next .f32 1
  | .rngUniformF32X2 => .rng .uniform .f32 1
  | .rngJumpX2 => .rng .jump .f32 1
  | .rngLjumpX2 => .rng .ljump .f32 1
  | .rngNextX4 => .rng .next .f32 2
  | .rngUniformF32X4 => .rng .uniform .f32 2
  | .rngJumpX4 => .rng .jump .f32 2
  | .rngLjumpX4 => .rng .ljump .f32 2
  | .rngNextX8 => .rng .next .f32 3
  | .rngUniformF32X8 => .rng .uniform .f32 3
  | .rngJumpX8 => .rng .jump .f32 3
  | .rngLjumpX8 => .rng .ljump .f32 3
  | .rngNextX16 => .rng .next .f32 4
  | .rngUniformF32X16 => .rng .uniform .f32 4
  | .rngJumpX16 => .rng .jump .f32 4
  | .rngLjumpX16 => .rng .ljump .f32 4
  | .rngUniformF64 => .rng .uniform .f64 0
  | .rngUniformF64X2 => .rng .uniform .f64 1
  | .rngUniformF64X4 => .rng .uniform .f64 2
  | .rngUniformF64X8 => .rng .uniform .f64 3
  | .rngUniformF64X16 => .rng .uniform .f64 4
  | .sysNop => .sys .nop
  | .sysProbe => .sys .probe

/-- Commands of the opcode map, Scalar rows 1 to 24. -/
def Instr.allScalar : List Instr :=
  [.srScalarAddF32, .srScalarSubF32, .srScalarMulF32, .srScalarDivF32,
   .srScalarSqrtF32, .srScalarFmaF32, .srScalarAddF64, .srScalarSubF64,
   .srScalarMulF64, .srScalarDivF64, .srScalarSqrtF64, .srScalarFmaF64,
   .udScalarAddF32, .udScalarSubF32, .udScalarMulF32, .udScalarDivF32,
   .udScalarSqrtF32, .udScalarFmaF32, .udScalarAddF64, .udScalarSubF64,
   .udScalarMulF64, .udScalarDivF64, .udScalarSqrtF64, .udScalarFmaF64]

/-- Commands of the opcode map, VectorStatic rows 1 to 24. -/
def Instr.allVectorStatic1 : List Instr :=
  [.srVectorAddF32X2Static, .srVectorSubF32X2Static, .srVectorMulF32X2Static, .srVectorDivF32X2Static,
   .srVectorSqrtF32X2Static, .srVectorFmaF32X2Static, .srVectorAddF32X4Static, .srVectorSubF32X4Static,
   .srVectorMulF32X4Static, .srVectorDivF32X4Static, .srVectorSqrtF32X4Static, .srVectorFmaF32X4Static,
   .srVectorAddF32X8Static, .srVectorSubF32X8Static, .srVectorMulF32X8Static, .srVectorDivF32X8Static,
   .srVectorSqrtF32X8Static, .srVectorFmaF32X8Static, .srVectorAddF32X16Static, .srVectorSubF32X16Static,
   .srVectorMulF32X16Static, .srVectorDivF32X16Static, .srVectorSqrtF32X16Static, .srVectorFmaF32X16Static]

/-- Commands of the opcode map, VectorStatic rows 25 to 48. -/
def Instr.allVectorStatic2 : List Instr :=
  [.srVectorAddF64X2Static, .srVectorSubF64X2Static, .srVectorMulF64X2Static, .srVectorDivF64X2Static,
   .srVectorSqrtF64X2Static, .srVectorFmaF64X2Static, .srVectorAddF64X4Static, .srVectorSubF64X4Static,
   .srVectorMulF64X4Static, .srVectorDivF64X4Static, .srVectorSqrtF64X4Static, .srVectorFmaF64X4Static,
   .srVectorAddF64X8Static, .srVectorSubF64X8Static, .srVectorMulF64X8Static, .srVectorDivF64X8Static,
   .srVectorSqrtF64X8Static, .srVectorFmaF64X8Static, .srVectorAddF64X16Static, .srVectorSubF64X16Static,
   .srVectorMulF64X16Static, .srVectorDivF64X16Static, .srVectorSqrtF64X16Static, .srVectorFmaF64X16Static]

/-- Commands of the opcode map, VectorStatic rows 49 to 72. -/
def Instr.allVectorStatic3 : List Instr :=
  [.udVectorAddF32X2Static, .udVectorSubF32X2Static, .udVectorMulF32X2Static, .udVectorDivF32X2Static,
   .udVectorSqrtF32X2Static, .udVectorFmaF32X2Static, .udVectorAddF32X4Static, .udVectorSubF32X4Static,
   .udVectorMulF32X4Static, .udVectorDivF32X4Static, .udVectorSqrtF32X4Static, .udVectorFmaF32X4Static,
   .udVectorAddF32X8Static, .udVectorSubF32X8Static, .udVectorMulF32X8Static, .udVectorDivF32X8Static,
   .udVectorSqrtF32X8Static, .udVectorFmaF32X8Static, .udVectorAddF32X16Static, .udVectorSubF32X16Static,
   .udVectorMulF32X16Static, .udVectorDivF32X16Static, .udVectorSqrtF32X16Static, .udVectorFmaF32X16Static]

/-- Commands of the opcode map, VectorStatic rows 73 to 96. -/
def Instr.allVectorStatic4 : List Instr :=
  [.udVectorAddF64X2Static, .udVectorSubF64X2Static, .udVectorMulF64X2Static, .udVectorDivF64X2Static,
   .udVectorSqrtF64X2Static, .udVectorFmaF64X2Static, .udVectorAddF64X4Static, .udVectorSubF64X4Static,
   .udVectorMulF64X4Static, .udVectorDivF64X4Static, .udVectorSqrtF64X4Static, .udVectorFmaF64X4Static,
   .udVectorAddF64X8Static, .udVectorSubF64X8Static, .udVectorMulF64X8Static, .udVectorDivF64X8Static,
   .udVectorSqrtF64X8Static, .udVectorFmaF64X8Static, .udVectorAddF64X16Static, .udVectorSubF64X16Static,
   .udVectorMulF64X16Static, .udVectorDivF64X16Static, .udVectorSqrtF64X16Static, .udVectorFmaF64X16Static]

/-- Commands of the opcode map, VectorDynamic rows 1 to 24. -/
def Instr.allVectorDynamic1 : List Instr :=
  [.srVectorAddF32X2Dynamic, .srVectorSubF32X2Dynamic, .srVectorMulF32X2Dynamic, .srVectorDivF32X2Dynamic,
   .srVectorSqrtF32X2Dynamic, .srVectorFmaF32X2Dynamic, .srVectorAddF32X4Dynamic, .srVectorSubF32X4Dynamic,
   .srVectorMulF32X4Dynamic, .srVectorDivF32X4Dynamic, .srVectorSqrtF32X4Dynamic, .srVectorFmaF32X4Dynamic,
   .srVectorAddF32X8Dynamic, .srVectorSubF32X8Dynamic, .srVectorMulF32X8Dynamic, .srVectorDivF32X8Dynamic,
   .srVectorSqrtF32X8Dynamic, .srVectorFmaF32X8Dynamic, .srVectorAddF32X16Dynamic, .srVectorSubF32X16Dynamic,
   .srVectorMulF32X16Dynamic, .srVectorDivF32X16Dynamic, .srVectorSqrtF32X16Dynamic, .srVectorFmaF32X16Dynamic]

/-- Commands of the opcode map, VectorDynamic rows 25 to 48. -/
def Instr.allVectorDynamic2 : List Instr :=
  [.srVectorAddF64X2Dynamic, .srVectorSubF64X2Dynamic, .srVectorMulF64X2Dynamic, .srVectorDivF64X2Dynamic,
   .srVectorSqrtF64X2Dynamic, .srVectorFmaF64X2Dynamic, .srVectorAddF64X4Dynamic, .srVectorSubF64X4Dynamic,
   .srVectorMulF64X4Dynamic, .srVectorDivF64X4Dynamic, .srVectorSqrtF64X4Dynamic, .srVectorFmaF64X4Dynamic,
   .srVectorAddF64X8Dynamic, .srVectorSubF64X8Dynamic, .srVectorMulF64X8Dynamic, .srVectorDivF64X8Dynamic,
   .srVectorSqrtF64X8Dynamic, .srVectorFmaF64X8Dynamic, .srVectorAddF64X16Dynamic, .srVectorSubF64X16Dynamic,
   .srVectorMulF64X16Dynamic, .srVectorDivF64X16Dynamic, .srVectorSqrtF64X16Dynamic, .srVectorFmaF64X16Dynamic]

/-- Commands of the opcode map, VectorDynamic rows 49 to 72. -/
def Instr.allVectorDynamic3 : List Instr :=
  [.udVectorAddF32X2Dynamic, .udVectorSubF32X2Dynamic, .udVectorMulF32X2Dynamic, .udVectorDivF32X2Dynamic,
   .udVectorSqrtF32X2Dynamic, .udVectorFmaF32X2Dynamic, .udVectorAddF32X4Dynamic, .udVectorSubF32X4Dynamic,
   .udVectorMulF32X4Dynamic, .udVectorDivF32X4Dynamic, .udVectorSqrtF32X4Dynamic, .udVectorFmaF32X4Dynamic,
   .udVectorAddF32X8Dynamic, .udVectorSubF32X8Dynamic, .udVectorMulF32X8Dynamic, .udVectorDivF32X8Dynamic,
   .udVectorSqrtF32X8Dynamic, .udVectorFmaF32X8Dynamic, .udVectorAddF32X16Dynamic, .udVectorSubF32X16Dynamic,
   .udVectorMulF32X16Dynamic, .udVectorDivF32X16Dynamic, .udVectorSqrtF32X16Dynamic, .udVectorFmaF32X16Dynamic]

/-- Commands of the opcode map, VectorDynamic rows 73 to 96. -/
def Instr.allVectorDynamic4 : List Instr :=
  [.udVectorAddF64X2Dynamic, .udVectorSubF64X2Dynamic, .udVectorMulF64X2Dynamic, .udVectorDivF64X2Dynamic,
   .udVectorSqrtF64X2Dynamic, .udVectorFmaF64X2Dynamic, .udVectorAddF64X4Dynamic, .udVectorSubF64X4Dynamic,
   .udVectorMulF64X4Dynamic, .udVectorDivF64X4Dynamic, .udVectorSqrtF64X4Dynamic, .udVectorFmaF64X4Dynamic,
   .udVectorAddF64X8Dynamic, .udVectorSubF64X8Dynamic, .udVectorMulF64X8Dynamic, .udVectorDivF64X8Dynamic,
   .udVectorSqrtF64X8Dynamic, .udVectorFmaF64X8Dynamic, .udVectorAddF64X16Dynamic, .udVectorSubF64X16Dynamic,
   .udVectorMulF64X16Dynamic, .udVectorDivF64X16Dynamic, .udVectorSqrtF64X16Dynamic, .udVectorFmaF64X16Dynamic]

/-- Commands of the opcode map, Array rows 1 to 24. -/
def Instr.allArray : List Instr :=
  [.srArrayAddF32, .srArraySubF32, .srArrayMulF32, .srArrayDivF32,
   .srArraySqrtF32, .srArrayFmaF32, .srArrayAddF64, .srArraySubF64,
   .srArrayMulF64, .srArrayDivF64, .srArraySqrtF64, .srArrayFmaF64,
   .udArrayAddF32, .udArraySubF32, .udArrayMulF32, .udArrayDivF32,
   .udArraySqrtF32, .udArrayFmaF32, .udArrayAddF64, .udArraySubF64,
   .udArrayMulF64, .udArrayDivF64, .udArraySqrtF64, .udArrayFmaF64]

/-- Commands of the opcode map, Prim rows 1 to 24. -/
def Instr.allPrim1 : List Instr :=
  [.primTwosumF32, .primTwoprodF32, .primSrroundF32, .primUdroundF32,
   .primTwosumF32X2, .primTwoprodF32X2, .primSrroundF32X2, .primUdroundF32X2,
   .primTwosumF32X4, .primTwoprodF32X4, .primSrroundF32X4, .primUdroundF32X4,
   .primTwosumF32X8, .primTwoprodF32X8, .primSrroundF32X8, .primUdroundF32X8,
   .primTwosumF32X16, .primTwoprodF32X16, .primSrroundF32X16, .primUdroundF32X16,
   .primTwosumF64, .primTwoprodF64, .primSrroundF64, .primUdroundF64]

/-- Commands of the opcode map, Prim rows 25 to 40. -/
def Instr.allPrim2 : List Instr :=
  [.primTwosumF64X2, .primTwoprodF64X2, .primSrroundF64X2, .primUdroundF64X2,
   .primTwosumF64X4, .primTwoprodF64X4, .primSrroundF64X4, .primUdroundF64X4,
   .primTwosumF64X8, .primTwoprodF64X8, .primSrroundF64X8, .primUdroundF64X8,
   .primTwosumF64X16, .primTwoprodF64X16, .primSrroundF64X16, .primUdroundF64X16]

/-- Commands of the opcode map, Rng rows 1 to 24. -/
def Instr.allRng1 : List Instr :=
  [.rngSeed, .rngNext, .rngUniformF32, .rngJump,
   .rngLjump, .rngNextX2, .rngUniformF32X2, .rngJumpX2,
   .rngLjumpX2, .rngNextX4, .rngUniformF32X4, .rngJumpX4,
   .rngLjumpX4, .rngNextX8, .rngUniformF32X8, .rngJumpX8,
   .rngLjumpX8, .rngNextX16, .rngUniformF32X16, .rngJumpX16,
   .rngLjumpX16, .rngUniformF64, .rngUniformF64X2, .rngUniformF64X4]

/-- Commands of the opcode map, Rng rows 25 to 26. -/
def Instr.allRng2 : List Instr :=
  [.rngUniformF64X8, .rngUniformF64X16]

/-- Commands of the opcode map, Sys rows 1 to 2. -/
def Instr.allSys : List Instr :=
  [.sysNop, .sysProbe]

/-- Every command, in the opcode map's order within each family. -/
def Instr.all : List Instr :=
  Instr.allScalar ++ Instr.allVectorStatic1 ++ Instr.allVectorStatic2 ++ Instr.allVectorStatic3 ++
  Instr.allVectorStatic4 ++ Instr.allVectorDynamic1 ++ Instr.allVectorDynamic2 ++ Instr.allVectorDynamic3 ++
  Instr.allVectorDynamic4 ++ Instr.allArray ++ Instr.allPrim1 ++ Instr.allPrim2 ++
  Instr.allRng1 ++ Instr.allRng2 ++ Instr.allSys

end Sys2Proof
end

