-- ==== Sys2Proof/WellFormed.lean ====
section
/-! DEFINITION. Which forms are legal commands (spec/30_encoding.md R84 to R89). -/

namespace Sys2Proof

/-- The architectural lane counts are 1, 2, 4, 8, 16: `lw` is at most 4 (R81). -/
def laneWidthOk (lw : Nat) : Bool := decide (lw ≤ 4)

/-- The legal shapes of class `ARITH` (R84): scalar is `lw = 0` with no flavor; a vector has `lw` in 1..4
and a flavor. -/
def arithShapeOk (flv : Flavor) (lw : Nat) : Bool :=
  match flv with
  | .none => lw == 0
  | .static => decide (1 ≤ lw) && laneWidthOk lw
  | .dynamic => decide (1 ≤ lw) && laneWidthOk lw

/-- Only `rng::uniform` has a kind: the field must be 0 (`f32`'s code) for the other operations (R87). -/
def rngKindOk (op : RngOp) (kind : Kind) : Bool :=
  match op with
  | .uniform => true
  | _ => kind == .f32

/-- `rng::seed` has no lane count; the other operations have 1 to 16 lanes (R87). -/
def rngWidthOk (op : RngOp) (lw : Nat) : Bool :=
  match op with
  | .seed => lw == 0
  | _ => laneWidthOk lw

/-- The legal forms (R84 to R88). -/
def Form.wellFormed : Form → Bool
  | .arith _ flv _ lw _ => arithShapeOk flv lw
  | .array _ _ _ => true
  | .prim _ lw _ => laneWidthOk lw
  | .rng op kind lw => rngKindOk op kind && rngWidthOk op lw
  | .sys _ => true

/-- A command is well formed when the form it stands for is legal (R89). -/
def Instr.wellFormed (i : Instr) : Bool := i.form.wellFormed

end Sys2Proof
end

