-- ==== Sys2Proof/Decode.lean ====
section
/-! DEFINITION. The decoder of the values written to `CMD`, total and rejecting by name, and after it the
encoder (spec/30_encoding.md R80 to R93, spec/10_state.md R28). -/

namespace Sys2Proof

/-- Why a value written to `CMD` is no legal command (R28, R89). The block answers all of them alike, with
`ERR_ILLEGAL` (R251). -/
inductive DecodeError where
  | upperBits        -- bits 63..32 of the written value are not zero (R28)
  | lowBits          -- bits 15..0 of the word are not zero (R81)
  | reservedClass    -- `cls` 0 or 6 to 15 (R83)
  | reservedOp       -- an `op` the class does not define (R84 to R88)
  | reservedFlavor   -- `flv` 3 (R81)
  | illegalShape     -- a combination of `flv`, `lw`, `kind` the class excludes (R84 to R88)
  | unusedField      -- a field the class does not use is not zero (R82)
deriving DecidableEq, Repr

/-- The fields of format `C` (R81). -/
structure Fields where
  cls : BitVec 4
  mode : BitVec 1
  flv : BitVec 2
  kind : BitVec 1
  lw : BitVec 3
  op : BitVec 5
  zero : BitVec 16
deriving DecidableEq, Repr

/-- Cutting a command word into its fields (R81). -/
def Fields.ofWord (w : Command) : Fields :=
  { cls := w.extractLsb' 28 4
    mode := w.extractLsb' 27 1
    flv := w.extractLsb' 25 2
    kind := w.extractLsb' 24 1
    lw := w.extractLsb' 21 3
    op := w.extractLsb' 16 5
    zero := w.extractLsb' 0 16 }

/-- `mode`: 0 is `sr`, 1 is `ud` (R81). -/
def decodeMode (b : BitVec 1) : Mode := if b = 0#1 then .sr else .ud

/-- `kind`: 0 is `f32`, 1 is `f64` (R81). -/
def decodeKind (b : BitVec 1) : Kind := if b = 0#1 then .f32 else .f64

/-- `flv`: 0 none, 1 static, 2 dynamic, 3 reserved (R81). -/
def decodeFlavor (b : BitVec 2) : Option Flavor :=
  match b.toNat with
  | 0 => some .none
  | 1 => some .static
  | 2 => some .dynamic
  | _ => none

/-- `op` of the classes `ARITH` and `ARRAY` (R84); 6 to 31 are reserved. -/
def decodeOp (b : BitVec 5) : Option Op :=
  match b.toNat with
  | 0 => some .add
  | 1 => some .sub
  | 2 => some .mul
  | 3 => some .div
  | 4 => some .sqrt
  | 5 => some .fma
  | _ => none

/-- `op` of the class `PRIM` (R86); 4 to 31 are reserved. -/
def decodePrimOp (b : BitVec 5) : Option PrimOp :=
  match b.toNat with
  | 0 => some .twosum
  | 1 => some .twoprod
  | 2 => some .srround
  | 3 => some .udround
  | _ => none

/-- `op` of the class `RNG` (R87); 5 to 31 are reserved. -/
def decodeRngOp (b : BitVec 5) : Option RngOp :=
  match b.toNat with
  | 0 => some .seed
  | 1 => some .next
  | 2 => some .uniform
  | 3 => some .jump
  | 4 => some .ljump
  | _ => none

/-- `op` of the class `SYS` (R88); 2 to 31 are reserved. -/
def decodeSysOp (b : BitVec 5) : Option SysOp :=
  match b.toNat with
  | 0 => some .nop
  | 1 => some .probe
  | _ => none

/-- Class `ARITH` (R84). -/
def Fields.arithForm (f : Fields) : Except DecodeError Form :=
  match decodeOp f.op, decodeFlavor f.flv with
  | none, _ => .error .reservedOp
  | some _, none => .error .reservedFlavor
  | some op, some flv => .ok (.arith (decodeMode f.mode) flv (decodeKind f.kind) f.lw.toNat op)

/-- Class `ARRAY` (R85): `flv` and `lw` must be 0. -/
def Fields.arrayForm (f : Fields) : Except DecodeError Form :=
  match decodeOp f.op with
  | none => .error .reservedOp
  | some op =>
    if f.flv = 0#2 ∧ f.lw = 0#3 then .ok (.array (decodeMode f.mode) (decodeKind f.kind) op)
    else .error .unusedField

/-- Class `PRIM` (R86): `mode` and `flv` must be 0. -/
def Fields.primForm (f : Fields) : Except DecodeError Form :=
  match decodePrimOp f.op with
  | none => .error .reservedOp
  | some op =>
    if f.mode = 0#1 ∧ f.flv = 0#2 then .ok (.prim (decodeKind f.kind) f.lw.toNat op)
    else .error .unusedField

/-- Class `RNG` (R87): `mode` and `flv` must be 0. -/
def Fields.rngForm (f : Fields) : Except DecodeError Form :=
  match decodeRngOp f.op with
  | none => .error .reservedOp
  | some op =>
    if f.mode = 0#1 ∧ f.flv = 0#2 then .ok (.rng op (decodeKind f.kind) f.lw.toNat)
    else .error .unusedField

/-- Class `SYS` (R88): `mode`, `flv`, `kind`, `lw` must be 0. -/
def Fields.sysForm (f : Fields) : Except DecodeError Form :=
  match decodeSysOp f.op with
  | none => .error .reservedOp
  | some op =>
    if f.mode = 0#1 ∧ f.flv = 0#2 ∧ f.kind = 0#1 ∧ f.lw = 0#3 then .ok (.sys op)
    else .error .unusedField

/-- The form the fields name, by class (R83); bits 15..0 must be zero (R81). -/
def Fields.form (f : Fields) : Except DecodeError Form :=
  if f.zero = 0#16 then
    match f.cls.toNat with
    | 1 => f.arithForm
    | 2 => f.arrayForm
    | 3 => f.primForm
    | 4 => f.rngForm
    | 5 => f.sysForm
    | _ => .error .reservedClass
  else .error .lowBits

/-- The rows of the opcode map among which a form is looked up: those of its class (R83) and, for class
`ARITH`, of its flavor (R84). -/
def Form.candidates : Form → List Instr
  | .arith _ .none _ _ _ => Instr.allScalar
  | .arith _ .static _ _ _ =>
    Instr.allVectorStatic1 ++ Instr.allVectorStatic2 ++ Instr.allVectorStatic3 ++ Instr.allVectorStatic4
  | .arith _ .dynamic _ _ _ =>
    Instr.allVectorDynamic1 ++ Instr.allVectorDynamic2 ++ Instr.allVectorDynamic3 ++ Instr.allVectorDynamic4
  | .array _ _ _ => Instr.allArray
  | .prim _ _ _ => Instr.allPrim1 ++ Instr.allPrim2
  | .rng _ _ _ => Instr.allRng1 ++ Instr.allRng2
  | .sys _ => Instr.allSys

/-- The command a form stands for; none where the form is no row of the opcode map (R89). -/
def Form.instr (f : Form) : Option Instr :=
  f.candidates.find? fun i => decide (i.form = f)

/-- Decoding a 32-bit command word (R89). -/
def decodeCommand (w : Command) : Except DecodeError Instr :=
  match (Fields.ofWord w).form with
  | .error e => .error e
  | .ok f =>
    match f.instr with
    | none => .error .illegalShape
    | some i => .ok i

/-- Decoding a value written to `CMD` (R28): bits 63..32 must be zero, the low half is the command word. -/
def decode (v : Word) : Except DecodeError Instr :=
  if v.extractLsb' 32 32 = 0#32 then decodeCommand (v.setWidth 32) else .error .upperBits

/-- The command the decoder reads from a word of spec/opcode_table.json. The word is laid out as the host
writes it to `CMD` (R28, R80): there is one length, 32 bits, and a value of more than 64 bits cannot be
written. -/
def decodeTableWord (nbits w : Nat) : Option Instr :=
  let v := w % 2 ^ nbits
  if v < 2 ^ 64 then
    match decode (BitVec.ofNat 64 v) with
    | .ok i => some i
    | .error _ => none
  else none

/-! The encoder (R81, R84 to R88, R93). -/

/-- `mode` of a rounding mode (R81). -/
def Mode.code : Mode → BitVec 1
  | .sr => 0#1
  | .ud => 1#1

/-- `kind` of a numeric kind (R81). -/
def Kind.code : Kind → BitVec 1
  | .f32 => 0#1
  | .f64 => 1#1

/-- `flv` of a flavor (R81). -/
def Flavor.code : Flavor → BitVec 2
  | .none => 0#2
  | .static => 1#2
  | .dynamic => 2#2

/-- `op` of an `ARITH` or `ARRAY` operation (R84). -/
def Op.code : Op → BitVec 5
  | .add => 0#5
  | .sub => 1#5
  | .mul => 2#5
  | .div => 3#5
  | .sqrt => 4#5
  | .fma => 5#5

/-- `op` of a `PRIM` operation (R86). -/
def PrimOp.code : PrimOp → BitVec 5
  | .twosum => 0#5
  | .twoprod => 1#5
  | .srround => 2#5
  | .udround => 3#5

/-- `op` of an `RNG` operation (R87). -/
def RngOp.code : RngOp → BitVec 5
  | .seed => 0#5
  | .next => 1#5
  | .uniform => 2#5
  | .jump => 3#5
  | .ljump => 4#5

/-- `op` of a `SYS` operation (R88). -/
def SysOp.code : SysOp → BitVec 5
  | .nop => 0#5
  | .probe => 1#5

/-- The fields of a form (R84 to R88); a field the class does not use is 0. -/
def Form.fields : Form → Fields
  | .arith m flv k lw op =>
    { cls := 1#4, mode := m.code, flv := flv.code, kind := k.code, lw := BitVec.ofNat 3 lw, op := op.code, zero := 0#16 }
  | .array m k op =>
    { cls := 2#4, mode := m.code, flv := 0#2, kind := k.code, lw := 0#3, op := op.code, zero := 0#16 }
  | .prim k lw op =>
    { cls := 3#4, mode := 0#1, flv := 0#2, kind := k.code, lw := BitVec.ofNat 3 lw, op := op.code, zero := 0#16 }
  | .rng op k lw =>
    { cls := 4#4, mode := 0#1, flv := 0#2, kind := k.code, lw := BitVec.ofNat 3 lw, op := op.code, zero := 0#16 }
  | .sys op =>
    { cls := 5#4, mode := 0#1, flv := 0#2, kind := 0#1, lw := 0#3, op := op.code, zero := 0#16 }

/-- Joining fields to a command word, the most significant first (R81). -/
def Fields.toWord (f : Fields) : Command :=
  f.cls ++ f.mode ++ f.flv ++ f.kind ++ f.lw ++ f.op ++ f.zero

/-- The command word of a command (R93). -/
def encode (i : Instr) : Command := i.form.fields.toWord

/-- The value a host writes to `CMD` to issue a command (R28): the word, bits 63..32 zero. -/
def encodeCmd (i : Instr) : Word := (encode i).setWidth 64

end Sys2Proof
end

