-- ==== Sys2Proof/Machine/Format.lean ====
section
/-! DEFINITION. Format descriptor, bit primitives, values and rounding to nearest
(spec/40_format_primitives.md R110 to R118). A value of kind `K` is its `W_K`-bit pattern (R11, R12). -/

namespace Sys2Proof

/-- `W`: total width in bits (R110). -/
abbrev Kind.width : Kind → Nat
  | .f32 => 32
  | .f64 => 64

/-- `M`: number of mantissa bits (R110). -/
def Kind.mant : Kind → Nat
  | .f32 => 23
  | .f64 => 52

/-- `EB`: width of the exponent field (R110). -/
def Kind.expBits : Kind → Nat
  | .f32 => 8
  | .f64 => 11

/-- `BIAS`: exponent bias (R110). -/
def Kind.bias : Kind → Int
  | .f32 => 127
  | .f64 => 1023

/-- `EMIN`: minimum normal exponent (R110). -/
def Kind.emin : Kind → Int
  | .f32 => -126
  | .f64 => -1022

/-- `EMAX`: maximum normal exponent (R110). -/
def Kind.emax : Kind → Int
  | .f32 => 127
  | .f64 => 1023

/-- Element size in bytes, `W_K / 8` (R62). -/
def Kind.bytes : Kind → Nat
  | .f32 => 4
  | .f64 => 8

/-- A pattern of kind `K` (R11). -/
abbrev Pat (k : Kind) := BitVec k.width

end Sys2Proof

namespace Sys2Proof.Machine

/-- `SIGNMASK` (R110). -/
def signMask : (k : Kind) → Pat k
  | .f32 => 0x80000000#32
  | .f64 => 0x8000000000000000#64

/-- `EXPMASK`, also the Inf and NaN detection pattern (R110). -/
def expMask : (k : Kind) → Pat k
  | .f32 => 0x7F800000#32
  | .f64 => 0x7FF0000000000000#64

/-- `MANTMASK` (R110). -/
def mantMask : (k : Kind) → Pat k
  | .f32 => 0x007FFFFF#32
  | .f64 => 0x000FFFFFFFFFFFFF#64

/-- `EALL`: the exponent field of Inf and NaN (R110). -/
def expAll : Kind → Nat
  | .f32 => 255
  | .f64 => 2047

/-- `PINF`: +infinity (R110). -/
def posInf : (k : Kind) → Pat k
  | .f32 => 0x7F800000#32
  | .f64 => 0x7FF0000000000000#64

/-- `CANON_NAN`: the canonical quiet NaN (R110, R127). -/
def canonNan : (k : Kind) → Pat k
  | .f32 => 0x7FC00000#32
  | .f64 => 0x7FF8000000000000#64

/-- `ONE`: 1.0 (R110); a constant of the descriptor that no other rule reads. -/
def one : (k : Kind) → Pat k
  | .f32 => 0x3F800000#32
  | .f64 => 0x3FF0000000000000#64

/-- `TWO`: 2.0 (R110). -/
def two : (k : Kind) → Pat k
  | .f32 => 0x40000000#32
  | .f64 => 0x4000000000000000#64

/-- `ONE_MINUS_EPS`: `1 - 2^-M` (R110). -/
def oneMinusEps : (k : Kind) → Pat k
  | .f32 => 0x3F7FFFFE#32
  | .f64 => 0x3FEFFFFFFFFFFFFE#64

/-- `+0` (R112). -/
def posZero (k : Kind) : Pat k := 0#k.width

/-- The sign bit `Sf(x)` (R111); also `sign_K(x)` (R114). -/
def sign (k : Kind) (x : Pat k) : Bool := x.msb

/-- The exponent field `Ef(x) = (x & EXPMASK) >> M` (R111). -/
def expField (k : Kind) (x : Pat k) : Nat := ((x &&& expMask k) >>> k.mant).toNat

/-- The mantissa field `Tf(x) = x & MANTMASK` (R111). -/
def mantField (k : Kind) (x : Pat k) : Nat := (x &&& mantMask k).toNat

/-- Zero (R112). -/
def isZero (k : Kind) (x : Pat k) : Bool := expField k x == 0 && mantField k x == 0

/-- Subnormal (R112). -/
def isSubnormal (k : Kind) (x : Pat k) : Bool := expField k x == 0 && mantField k x != 0

/-- Normal (R112). -/
def isNormal (k : Kind) (x : Pat k) : Bool := expField k x != 0 && expField k x != expAll k

/-- Infinity (R112). -/
def isInf (k : Kind) (x : Pat k) : Bool := expField k x == expAll k && mantField k x == 0

/-- NaN (R112). -/
def isNan (k : Kind) (x : Pat k) : Bool := expField k x == expAll k && mantField k x != 0

/-- Finite: zero, subnormal or normal (R112). -/
def isFinite (k : Kind) (x : Pat k) : Bool := isZero k x || isSubnormal k x || isNormal k x

/-- `isnumber_K(x)`: the bitmask test that rejects zero, Inf and NaN (R113). -/
def isNumber (k : Kind) (x : Pat k) : Bool :=
  (x &&& ~~~(signMask k)) != 0#k.width && (x &&& expMask k) != expMask k

/-- `fabs_K` (R114). -/
def fabs (k : Kind) (x : Pat k) : Pat k := x &&& ~~~(signMask k)

/-- `fneg_K` (R114). -/
def fneg (k : Kind) (x : Pat k) : Pat k := x ^^^ signMask k

/-- `2^e` as an exact value. -/
def pow2Rat (e : Int) : Rat :=
  if 0 ≤ e then ((2 ^ e.toNat : Nat) : Rat) else 1 / ((2 ^ (-e).toNat : Nat) : Rat)

/-- The magnitude `|val_K(x)|` of a finite pattern (R115). -/
def magnitude (k : Kind) (x : Pat k) : Rat :=
  if expField k x = 0 then (mantField k x : Rat) * pow2Rat (k.emin - k.mant)
  else ((2 ^ k.mant + mantField k x : Nat) : Rat) * pow2Rat (expField k x - k.bias - k.mant)

/-- `val_K(x)`, the exact value of a finite pattern (R115). -/
def val (k : Kind) (x : Pat k) : Rat := if sign k x then -(magnitude k x) else magnitude k x

/-- `s << (W-1)`: a pattern with the sign bit `s` and zeros below (R116). -/
def signBit (k : Kind) (s : Bool) : Pat k := if s then signMask k else 0#k.width

/-- `floor(log2(a))` of a positive value (R116). -/
def floorLog2 (a : Rat) : Int :=
  let g : Int := (Nat.log2 a.num.toNat : Int) - (Nat.log2 a.den : Int)
  if pow2Rat g ≤ a then g else g - 1

/-- The integer nearest to a nonnegative value, ties to the even integer (R116). -/
def nearestEven (x : Rat) : Nat :=
  let f := x.floor.toNat
  let r := x - (f : Rat)
  if r < 1 / 2 then f else if 1 / 2 < r then f + 1 else f + f % 2

/-- The last lines of `RN_K`: from the sign, the exponent `e` and the rounded significand `f` at spacing
`2^(e-M)` to the pattern, with the carry into the next binade and overflow to infinity (R116). -/
def pack (k : Kind) (s : Bool) (e : Int) (f : Nat) : Pat k :=
  let e' := if f = 2 ^ (k.mant + 1) then e + 1 else e
  let f' := if f = 2 ^ (k.mant + 1) then 2 ^ k.mant else f
  if k.emax < e' then signBit k s ||| posInf k
  else if f' < 2 ^ k.mant then signBit k s ||| BitVec.ofNat k.width f'
  else signBit k s ||| BitVec.ofNat k.width ((e' + k.bias).toNat <<< k.mant) ||| BitVec.ofNat k.width (f' - 2 ^ k.mant)

/-- The exponent at which a positive value is rounded: `floor(log2(a))`, at least `EMIN` (R116). -/
def roundExp (k : Kind) (a : Rat) : Int := max (floorLog2 a) k.emin

/-- `RN_K(v, zs)`: round to nearest, ties to even, gradual underflow (R116). -/
def roundNearest (k : Kind) (v : Rat) (zs : Bool) : Pat k :=
  if v = 0 then signBit k zs
  else
    let a := if v < 0 then -v else v
    let e := roundExp k a
    pack k (decide (v < 0)) e (nearestEven (a / pow2Rat (e - k.mant)))

/-- Bits `b - 1` to 0 of the integer square root of `n`, `r` holding the bits above. -/
def isqrtBits : Nat → Nat → Nat → Nat
  | 0, _, r => r
  | b + 1, n, r => isqrtBits b n (if (r + 2 ^ b) * (r + 2 ^ b) ≤ n then r + 2 ^ b else r)

/-- The integer square root: the largest `r` with `r * r ≤ n`. -/
def isqrt (n : Nat) : Nat := isqrtBits (Nat.log2 n / 2 + 1) n 0

/-- The integer nearest to the square root of a nonnegative value, ties to the even integer (R116 for an
irrational argument: `sqrt x` lies above `r + 1/2` exactly when `x` lies above its square; log 11). -/
def nearestSqrt (x : Rat) : Nat :=
  let r := isqrt x.floor.toNat
  let half := ((r : Rat) + 1 / 2) * ((r : Rat) + 1 / 2)
  if x < half then r else if half < x then r + 1 else r + r % 2

/-- `RN_K(sqrt(a), 0)` of a positive value (R116, R124). -/
def roundSqrt (k : Kind) (a : Rat) : Pat k :=
  let e := max (floorLog2 a / 2) k.emin
  pack k false e (nearestSqrt (a / pow2Rat (2 * (e - k.mant))))

/-- `get_exponent_K(x)` (R117). -/
def getExponent (k : Kind) (x : Pat k) : Int := max (expField k x : Int) 1 - k.bias

/-- `pow2_K(n)`, the pattern of `2^n` for `EMIN - M <= n <= EMAX` (R118); no rule calls it outside that
range (log 13). -/
def pow2 (k : Kind) (n : Int) : Pat k :=
  if k.emin ≤ n then BitVec.ofNat k.width ((n + k.bias).toNat <<< k.mant)
  else BitVec.ofNat k.width (1 <<< (n - (k.emin - k.mant)).toNat)

end Sys2Proof.Machine
end

