-- ==== Sys2Proof/Machine/Arithmetic.lean ====
section
/-! DEFINITION. The base operations and comparisons, the source's plain hardware arithmetic
(spec/40_format_primitives.md R119 to R128): pure total functions of their operand patterns. -/

namespace Sys2Proof.Machine

/-- An infinity with the sign `s` (R110, R122). -/
def infinity (k : Kind) (s : Bool) : Pat k := signBit k s ||| posInf k

/-- The sign of a zero sum: `-0` when both operands are `-0`, else `+0` (R120 step 3, R125 step 4). -/
def zeroSumSign (k : Kind) (a b : Pat k) : Bool := isZero k a && sign k a && isZero k b && sign k b

/-- `fadd_K(a, b)` (R120). -/
def fadd (k : Kind) (a b : Pat k) : Pat k :=
  if isNan k a || isNan k b then canonNan k
  else if isInf k a && isInf k b then (if sign k a = sign k b then a else canonNan k)
  else if isInf k a then a
  else if isInf k b then b
  else roundNearest k (val k a + val k b) (zeroSumSign k a b)

/-- `fsub_K(a, b)` (R121). -/
def fsub (k : Kind) (a b : Pat k) : Pat k := fadd k a (fneg k b)

/-- `fmul_K(a, b)` (R122). -/
def fmul (k : Kind) (a b : Pat k) : Pat k :=
  let s := sign k a ^^ sign k b
  if isNan k a || isNan k b then canonNan k
  else if (isInf k a && isZero k b) || (isZero k a && isInf k b) then canonNan k
  else if isInf k a || isInf k b then infinity k s
  else roundNearest k (val k a * val k b) s

/-- `fdiv_K(a, b)` (R123). -/
def fdiv (k : Kind) (a b : Pat k) : Pat k :=
  let s := sign k a ^^ sign k b
  if isNan k a || isNan k b then canonNan k
  else if isInf k a && isInf k b then canonNan k
  else if isInf k a then infinity k s
  else if isInf k b then signBit k s
  else if isZero k b then (if isZero k a then canonNan k else infinity k s)
  else roundNearest k (val k a / val k b) s

/-- `fsqrt_K(a)` (R124). -/
def fsqrt (k : Kind) (a : Pat k) : Pat k :=
  if isNan k a then canonNan k
  else if isZero k a then a
  else if sign k a then canonNan k
  else if isInf k a then posInf k
  else roundSqrt k (val k a)

/-- The sign of a zero `a * b + c` (R125 step 4): `-0` when the product is a zero of sign `ps = 1` and `c`
is `-0`, else `+0`. -/
def zeroFmaSign (k : Kind) (a b c : Pat k) : Bool :=
  decide (val k a * val k b = 0) && (sign k a ^^ sign k b) && isZero k c && sign k c

/-- `ffma_K(a, b, c)`: `a * b + c` with a single rounding (R125). -/
def ffma (k : Kind) (a b c : Pat k) : Pat k :=
  let ps := sign k a ^^ sign k b
  if isNan k a || isNan k b || isNan k c then canonNan k
  else if isInf k a || isInf k b then
    (if isZero k a || isZero k b then canonNan k
     else if isInf k c && (sign k c != ps) then canonNan k
     else infinity k ps)
  else if isInf k c then c
  else roundNearest k (val k a * val k b + val k c) (zeroFmaSign k a b c)

/-- A value on the extended line: `-Inf` below and `+Inf` above every finite value (R126). -/
inductive ExtVal where
  | negInf
  | fin (v : Rat)
  | posInf
deriving DecidableEq, Repr

/-- The extended value of a pattern that is no NaN (R126); both zeros have the value 0 (R115). -/
def extVal (k : Kind) (x : Pat k) : ExtVal :=
  if isInf k x then (if sign k x then .negInf else .posInf) else .fin (val k x)

/-- The order of the extended line (R126). -/
def extLt : ExtVal → ExtVal → Bool
  | .negInf, .negInf => false
  | .negInf, _ => true
  | .fin _, .negInf => false
  | .fin v, .fin w => decide (v < w)
  | .fin _, .posInf => true
  | .posInf, _ => false

/-- Neither operand is a NaN (R126). -/
def ordered (k : Kind) (a b : Pat k) : Bool := !isNan k a && !isNan k b

/-- `feq_K(a, b)` (R126). -/
def feq (k : Kind) (a b : Pat k) : Bool := ordered k a b && decide (extVal k a = extVal k b)

/-- `flt_K(a, b)` (R126). -/
def flt (k : Kind) (a b : Pat k) : Bool := ordered k a b && extLt (extVal k a) (extVal k b)

/-- `fge_K(a, b)` (R126). -/
def fge (k : Kind) (a b : Pat k) : Bool := ordered k a b && !extLt (extVal k a) (extVal k b)

end Sys2Proof.Machine
end

