-- ==== Sys2Proof/Machine/Eft.lean ====
section
/-! DEFINITION. The error-free transforms (spec/41_eft.md R140 to R143): pure functions from two patterns
to an ErrorPair `(sigma, tau)`. -/

namespace Sys2Proof.Machine

/-- An ErrorPair (R14): the rounded result and the residual; local to a command, no state (R42). -/
structure ErrorPair (k : Kind) where
  sigma : Pat k
  tau : Pat k
deriving DecidableEq, Repr

/-- `twosum` after the swap: the larger operand first (R140). -/
def twosumOrdered (k : Kind) (a b : Pat k) : ErrorPair k :=
  let sigma := fadd k a b
  let z := fsub k sigma a
  { sigma := sigma, tau := fadd k (fsub k a (fsub k sigma z)) (fsub k b z) }

/-- `twosum_K(a, b)` (R140): the operands are swapped when `|a| < |b|`. -/
def twosum (k : Kind) (a b : Pat k) : ErrorPair k :=
  if flt k (fabs k a) (fabs k b) then twosumOrdered k b a else twosumOrdered k a b

/-- `twoprod_K(a, b)` (R142). -/
def twoprod (k : Kind) (a b : Pat k) : ErrorPair k :=
  let sigma := fmul k a b
  { sigma := sigma, tau := ffma k a b (fneg k sigma) }

end Sys2Proof.Machine
end

