-- ==== Sys2Proof/Machine/Rounding.lean ====
section
/-! DEFINITION. The rounding-decision kernel (spec/42_rounding.md R150 to R153), the uniform mapping of a
raw draw (spec/43_prng.md R177), and the form every lane function takes: it draws at most once. -/

namespace Sys2Proof.Machine

/-- `pred_abs_K(sigma) = fabs(sigma) * (1 - 2^-M)` (R151). -/
def predAbs (k : Kind) (sigma : Pat k) : Pat k := fmul k (fabs k sigma) (oneMinusEps k)

/-- Step (3) of `sr_round`: the exponent of `sigma`, or of its predecessor when `tau` has the other sign
(R150, R151). -/
def srExponent (k : Kind) (sigma tau : Pat k) : Int :=
  if sign k tau != sign k sigma then getExponent k (predAbs k sigma) else getExponent k sigma

/-- Step (4): magnitude `2^(eta - M)`, the sign of `tau` (R150; C1 of spec/90_conflicts.md). -/
def srUlp (k : Kind) (sigma tau : Pat k) : Pat k :=
  pow2 k (srExponent k sigma tau - k.mant) ||| signBit k (sign k tau)

/-- `sr_round_K(sigma, tau, z)`, the perturbation (R150). -/
def srRound (k : Kind) (sigma tau z : Pat k) : Pat k :=
  if feq k tau (posZero k) then posZero k
  else if !isNumber k sigma then posZero k
  else
    let ulp := srUlp k sigma tau
    let pi := fmul k ulp z
    if fge k (fabs k (fadd k tau pi)) (fabs k ulp) then ulp else posZero k

/-- `sr_finish_K(sigma, tau, z) = sigma + sr_round(sigma, tau, z)` (R191). -/
def srFinish (k : Kind) (p : ErrorPair k) (z : Pat k) : Pat k := fadd k p.sigma (srRound k p.sigma p.tau z)

/-- The number of top bits of a raw draw the uniform mapping keeps: 24 or 53, `M + 1` (R177). -/
def uniformBits (k : Kind) : Nat := k.mant + 1

/-- The uniform mapping of a raw draw: the top `P` bits times `2^-P`, exactly (R177). -/
def uniform (k : Kind) (r : Word) : Pat k :=
  roundNearest k ((r >>> (64 - uniformBits k)).toNat * pow2Rat (-(uniformBits k : Int))) false

/-- The step of `ud_round` on a number: up when bit 63 of the raw draw is 1, down when it is 0 (R153). -/
def udStep (k : Kind) (a : Pat k) (r : Word) : Pat k := if r.msb then a + 1#k.width else a - 1#k.width

/-- What a lane function does with its stream (R176, R190, R205): it either needs no draw, or takes exactly
one raw draw and computes its result from it. -/
inductive Lane (w : Nat) where
  | plain (v : BitVec w)
  | draw (f : Word → BitVec w)

/-- Whether the lane draws. -/
def Lane.draws {w : Nat} : Lane w → Bool
  | .plain _ => false
  | .draw _ => true

/-- The lane's result when its raw draw, if it takes one, is `r`. -/
def Lane.value {w : Nat} (l : Lane w) (r : Word) : BitVec w :=
  match l with
  | .plain v => v
  | .draw f => f r

/-- `ud_round_K(a; i)`: skip on zero, Inf and NaN, with no draw (R153). -/
def udRound (k : Kind) (a : Pat k) : Lane k.width :=
  if isNumber k a then .draw (udStep k a) else .plain a

end Sys2Proof.Machine
end

