-- ==== Sys2Proof/Machine/Kernels.lean ====
section
/-! DEFINITION. The twelve operation kernels as lane functions (spec/44_kernels_sr.md R190 to R197,
spec/45_kernels_ud.md R205 to R211). -/

namespace Sys2Proof.Machine

/-- The operands of one lane or element; an operation of smaller arity ignores the later ones (R92). -/
structure Operands (k : Kind) where
  a : Pat k
  b : Pat k
  c : Pat k
deriving DecidableEq, Repr

/-- How many operands an operation takes (R92). -/
def arity : Op → Nat
  | .sqrt => 1
  | .fma => 3
  | _ => 2

/-- What an SR kernel does once its gate has passed: one draw, mapped to a uniform value, then `sr_finish`
(R190, R191). -/
def srDraw (k : Kind) (p : ErrorPair k) : Lane k.width := .draw fun r => srFinish k p (uniform k r)

/-- `sr_add_K` (R192). -/
def srAdd (k : Kind) (a b : Pat k) : Lane k.width :=
  if isNumber k a && isNumber k b then srDraw k (twosum k a b) else .plain (fadd k a b)

/-- `sr_sub_K` (R193). -/
def srSub (k : Kind) (a b : Pat k) : Lane k.width := srAdd k a (fneg k b)

/-- `sr_mul_K` (R194). -/
def srMul (k : Kind) (a b : Pat k) : Lane k.width :=
  if isNumber k a && isNumber k b then srDraw k (twoprod k a b) else .plain (fmul k a b)

/-- `sigma` and `tau` of `sr_div_K` (R195). -/
def divResidual (k : Kind) (a b : Pat k) : ErrorPair k :=
  let sigma := fdiv k a b
  { sigma := sigma, tau := fdiv k (ffma k (fneg k sigma) b a) b }

/-- `sr_div_K` (R195). -/
def srDiv (k : Kind) (a b : Pat k) : Lane k.width :=
  if isNumber k a && isNumber k b then srDraw k (divResidual k a b) else .plain (fdiv k a b)

/-- `sigma` and `tau` of `sr_sqrt_K` (R196). -/
def sqrtResidual (k : Kind) (a : Pat k) : ErrorPair k :=
  let sigma := fsqrt k a
  { sigma := sigma, tau := fdiv k (ffma k (fneg k sigma) sigma a) (fmul k (two k) sigma) }

/-- `sr_sqrt_K` (R196). -/
def srSqrt (k : Kind) (a : Pat k) : Lane k.width :=
  if isNumber k a then srDraw k (sqrtResidual k a) else .plain (fsqrt k a)

/-- `sigma` and `tau` of `sr_fma_K` (R197). -/
def fmaResidual (k : Kind) (a b c : Pat k) : ErrorPair k :=
  let p := twoprod k a b
  let u := twosum k c p.sigma
  let sigma := ffma k a b c
  { sigma := sigma, tau := fadd k (fsub k u.sigma sigma) (fadd k p.tau u.tau) }

/-- `sr_fma_K` (R197). -/
def srFma (k : Kind) (a b c : Pat k) : Lane k.width :=
  if isNumber k a && isNumber k b && isNumber k c then srDraw k (fmaResidual k a b c) else .plain (ffma k a b c)

/-- The common structure of the UD kernels: the gate on the operands, then `ud_round` on the plain result
(R205). -/
def udGate (k : Kind) (gate : Bool) (h : Pat k) : Lane k.width := if gate then udRound k h else .plain h

/-- `ud_add_K` (R206). -/
def udAdd (k : Kind) (a b : Pat k) : Lane k.width := udGate k (isNumber k a && isNumber k b) (fadd k a b)

/-- `ud_sub_K` (R207). -/
def udSub (k : Kind) (a b : Pat k) : Lane k.width := udAdd k a (fneg k b)

/-- `ud_mul_K` (R208). -/
def udMul (k : Kind) (a b : Pat k) : Lane k.width := udGate k (isNumber k a && isNumber k b) (fmul k a b)

/-- `ud_div_K` (R209). -/
def udDiv (k : Kind) (a b : Pat k) : Lane k.width := udGate k (isNumber k a && isNumber k b) (fdiv k a b)

/-- `ud_sqrt_K` (R210). -/
def udSqrt (k : Kind) (a : Pat k) : Lane k.width := udGate k (isNumber k a) (fsqrt k a)

/-- `ud_fma_K` (R211). -/
def udFma (k : Kind) (a b c : Pat k) : Lane k.width :=
  udGate k (isNumber k a && isNumber k b && isNumber k c) (ffma k a b c)

/-- `kernel_K`: the lane function a command's `mode` and `op` select (R220). -/
def kernel (m : Mode) (op : Op) (k : Kind) (x : Operands k) : Lane k.width :=
  match m, op with
  | .sr, .add => srAdd k x.a x.b
  | .sr, .sub => srSub k x.a x.b
  | .sr, .mul => srMul k x.a x.b
  | .sr, .div => srDiv k x.a x.b
  | .sr, .sqrt => srSqrt k x.a
  | .sr, .fma => srFma k x.a x.b x.c
  | .ud, .add => udAdd k x.a x.b
  | .ud, .sub => udSub k x.a x.b
  | .ud, .mul => udMul k x.a x.b
  | .ud, .div => udDiv k x.a x.b
  | .ud, .sqrt => udSqrt k x.a
  | .ud, .fma => udFma k x.a x.b x.c

end Sys2Proof.Machine
end

