-- ==== Sys2Proof/Config.lean ====
section
/-! DEFINITION. What an implementation fixes (spec/00_scope.md R7) and what the spec leaves open. The
parameters are plain data (`Params`), so that a statement about every state is one about every
implementation (log 5); what has no law at all is an opaque constant with no body. -/

namespace Sys2Proof

/-- Four 64-bit words: the state of a lane stream, `s0` to `s3` (R26, R165); also the shape of a jump
polynomial (R169). -/
structure Stream where
  s0 : Word
  s1 : Word
  s2 : Word
  s3 : Word
deriving DecidableEq, Repr, Inhabited

/-- A native lane count, one of 1, 2, 4, 8, 16 (R7: `HWLANES32`, `HWLANES64`). -/
inductive LaneCount where
  | one
  | two
  | four
  | eight
  | sixteen
deriving DecidableEq, Repr

/-- log2 of a native lane count (R29, R37). -/
def LaneCount.log2 : LaneCount → BitVec 3
  | .one => 0#3
  | .two => 1#3
  | .four => 2#3
  | .eight => 3#3
  | .sixteen => 4#3

/-- A run of addresses that are ordinary readable and writable memory: `base` to `base + size - 1` (R60). -/
structure Region where
  base : Nat
  size : Nat
deriving DecidableEq, Repr

/-- `PRNG_ADVANCE` (R166): the default engine of R167, or another one, of which nothing is known. -/
inductive Engine where
  | xoshiro256
  | other (n : Nat)
deriving DecidableEq, Repr

/-- `PRNG_OUT` (R166): the default scrambler of R168, the two alternatives D18 records, or another one, of
which nothing is known. -/
inductive Scrambler where
  | plusPlus
  | plus
  | starStar
  | other (n : Nat)
deriving DecidableEq, Repr

/-- `PRNG_MIX` (R166): the default mixer of R171, or another one, of which nothing is known. -/
inductive Mixer where
  | splitMix64
  | other (n : Nat)
deriving DecidableEq, Repr

/-- The generator's parameters `PRNG_*` (R166). -/
structure Prng where
  engine : Engine
  scrambler : Scrambler
  jumpPoly : Stream
  ljumpPoly : Stream
  mixer : Mixer
deriving DecidableEq, Repr

/-- The parameters an implementation fixes (R7). -/
structure Params where
  hwLanes32 : LaneCount
  hwLanes64 : LaneCount
  tidReset : BitVec 16
  memMap : List Region
  prng : Prng
deriving DecidableEq, Repr

namespace Config

/-- `ENV_SEED` (R7, R175): a free 64-bit input under no law, sampled at lazy initialisation; the argument
counts the samples (log 7). -/
opaque envSeed : Nat → Word

/-- The value an unspecified register holds after a reset (R40, R41): a free value, by the number of the
reset and the register number of R27 (log 4). -/
opaque resetValue : Nat → Nat → Word

/-- The platform's memory map (R7, R60: `MEM_VALID` is open); a free value (log 6). -/
opaque memMap : List Region

/-- `PRNG_ADVANCE` of an engine other than the default (R166); free (log 10). -/
opaque otherAdvance : Nat → Stream → Stream

/-- `PRNG_OUT` of a scrambler that is none of D18's; free (log 10). -/
opaque otherOut : Nat → Stream → Word

/-- `PRNG_MIX` of a mixer other than the default (R166); free (log 10). -/
opaque otherMix : Nat → Word → Word × Word

/-- The default generator parameters (R166 to R171). -/
def prng : Prng :=
  { engine := .xoshiro256
    scrambler := .plusPlus
    jumpPoly := ⟨0x180EC6D33CFD0ABA#64, 0xD5A61266F0C9392C#64, 0xA9582618E03FC9AA#64, 0x39ABDC4529B1661C#64⟩
    ljumpPoly := ⟨0x76E15D3EFEFDCBBF#64, 0xC5004E441C522FB3#64, 0x77710069854EE241#64, 0x39109BB02ACBE635#64⟩
    mixer := .splitMix64 }

/-- The parameters of `State.reset`: R7's defaults where R7 gives one; the memory map has none (log 5, 6). -/
def params : Params :=
  { hwLanes32 := .sixteen
    hwLanes64 := .eight
    tidReset := 0#16
    memMap := memMap
    prng := prng }

end Config

end Sys2Proof
end

