-- ==== Sys2Proof/Machine/Random.lean ====
section
/-! DEFINITION. The random stream as functions of a stream's state (spec/43_prng.md R165 to R174), for any
generator parameters (R166). What draws from the block's own streams stands in Ops.lean. -/

namespace Sys2Proof.Machine

/-- `rotl64` (R9). -/
def rotl64 (x : Word) (k : Nat) : Word := (x <<< k) ||| (x >>> (64 - k))

/-- Word-wise exclusive or of two states (R169). -/
def xorStream (a b : Stream) : Stream := ⟨a.s0 ^^^ b.s0, a.s1 ^^^ b.s1, a.s2 ^^^ b.s2, a.s3 ^^^ b.s3⟩

/-- The all-zero state (R173). -/
def zeroStream : Stream := ⟨0#64, 0#64, 0#64, 0#64⟩

/-- The default recurrence, written without reuse of names (R167). -/
def xoshiroAdvance (a : Stream) : Stream :=
  { s0 := a.s0 ^^^ a.s3 ^^^ a.s1
    s1 := a.s1 ^^^ a.s2 ^^^ a.s0
    s2 := a.s2 ^^^ a.s0 ^^^ (a.s1 <<< 17)
    s3 := rotl64 (a.s3 ^^^ a.s1) 45 }

/-- `PRNG_ADVANCE` (R166, R167). -/
def advance (p : Prng) (s : Stream) : Stream :=
  match p.engine with
  | .xoshiro256 => xoshiroAdvance s
  | .other n => Config.otherAdvance n s

/-- `PRNG_OUT`, the 64 raw bits of a draw, from the state before it advances (R166, R168; the `+` and `**`
scramblers from D18). -/
def out (p : Prng) (s : Stream) : Word :=
  match p.scrambler with
  | .plusPlus => rotl64 (s.s0 + s.s3) 23 + s.s0
  | .plus => s.s0 + s.s3
  | .starStar => rotl64 (s.s1 * 5#64) 7 * 9#64
  | .other n => Config.otherOut n s

/-- The 64 bits of a word, bit 0 first (R169). -/
def wordBits (w : Word) : List Bool := (List.range 64).map fun b => w.getLsbD b

/-- The 256 bits of a jump polynomial in the order `polyjump` takes them: word 0 first, bit 0 first (R169). -/
def polyBits (poly : Stream) : List Bool :=
  wordBits poly.s0 ++ wordBits poly.s1 ++ wordBits poly.s2 ++ wordBits poly.s3

/-- `polyjump`'s loop over the bits still to come, with the accumulator and the scratch copy (R169). -/
def polyJumpLoop (p : Prng) : List Bool → Stream → Stream → Stream
  | [], acc, _ => acc
  | b :: bits, acc, s => polyJumpLoop p bits (if b then xorStream acc s else acc) (advance p s)

/-- `polyjump(s, P)` (R169). -/
def polyJump (p : Prng) (poly s : Stream) : Stream := polyJumpLoop p (polyBits poly) zeroStream s

/-- `Jump()` (R169). -/
def jump (p : Prng) (s : Stream) : Stream := polyJump p p.jumpPoly s

/-- `LongJump()` (R170). -/
def ljump (p : Prng) (s : Stream) : Stream := polyJump p p.ljumpPoly s

/-- SplitMix64's output step (R171). -/
def splitMixOut (x : Word) : Word :=
  let z := (x ^^^ (x >>> 30)) * 0xBF58476D1CE4E5B9#64
  let z := (z ^^^ (z >>> 27)) * 0x94D049BB133111EB#64
  z ^^^ (z >>> 31)

/-- `PRNG_MIX`: the next counter and the output (R166, R171). -/
def mix (p : Prng) (x : Word) : Word × Word :=
  match p.mixer with
  | .splitMix64 => (x + 0x9E3779B97F4A7C15#64, splitMixOut (x + 0x9E3779B97F4A7C15#64))
  | .other n => Config.otherMix n x

/-- `seed_state(seed)` (R172). -/
def seedState (p : Prng) (seed : Word) : Stream :=
  let m0 := mix p seed
  let m1 := mix p m0.1
  let m2 := mix p m1.1
  let m3 := mix p m2.1
  ⟨m0.2, m1.2, m2.2, m3.2⟩

/-- `f` applied `n` times. -/
def repeated (f : Stream → Stream) : Nat → Stream → Stream
  | 0, s => s
  | n + 1, s => repeated f n (f s)

/-- The starting states of `n` lanes, one `jump` apart (R174). -/
def laneStarts (p : Prng) : Nat → Stream → List Stream
  | 0, _ => []
  | n + 1, base => base :: laneStarts p n (jump p base)

/-- `laneStarts` makes one state for each lane. -/
theorem laneStarts_length (p : Prng) (n : Nat) (base : Stream) : (laneStarts p n base).length = n := by
  induction n generalizing base with
  | zero => rfl
  | succ n ih => simp [laneStarts, ih]

/-- `init_streams(seed, idx)`: `idx` long jumps from the seeded state, then one jump between lanes (R174). -/
def initStreams (p : Prng) (seed : Word) (idx : BitVec 16) : Vector Stream 16 :=
  let base := repeated (ljump p) idx.toNat (seedState p seed)
  ⟨(laneStarts p 16 base).toArray, by simp [laneStarts_length]⟩

end Sys2Proof.Machine
end

