-- ==== Sys2Proof/Machine/State.lean ====
section
/-! DEFINITION. The state of one block instance (spec/10_state.md R20 to R42), the host's actions
(spec/00_scope.md R5, R6), the reasons a step can stop, and reset (R40, R270, R271). -/

namespace Sys2Proof.Machine

/-- A lane register: 16 slots of 64 bits (R21, R22). -/
abbrev LaneReg := Vector Word 16

/-- Data memory: (address, byte) pairs with strictly rising addresses and no pair equal to what an unlisted
address reads as; `Memory.wf` in Ops.lean says so (R60). -/
abbrev Memory := List Host.Cell

/-- Response codes (R250, R251); codes 5 to 15 are never produced, so they are no constructors. -/
inductive Response where
  | ok
  | illegal
  | align
  | range
  | overlap
deriving DecidableEq, Repr

/-- Dispatch state, `STATUS.DSTATE` (R29, R226); the value 3 never occurs, so it is no constructor. -/
inductive DispatchState where
  | unselected
  | probed
  | bound
deriving DecidableEq, Repr

/-- One action from outside the block (R5, R6, R39, R60, R270). A write to register 0 issues a command. -/
inductive HostAction where
  | writeReg (number : Nat) (value : Word)
  | readReg (number : Nat)
  | storeByte (addr : Word) (value : Byte)
  | loadByte (addr : Word)
  | resetBlock
deriving DecidableEq, Repr

/-- Faults. The block has none: no exception, no trap, no run-time error (R128, R254, R255, R259); what
goes wrong is a response code. -/
inductive Fault where
deriving DecidableEq, Repr

/-- Refusals. -/
inductive Refusal where
  /-- Raised by `exec` for a command that has no meaning yet; no command is left so. Safe: nothing can be
  proved of what the command does. -/
  | notModelled (mnemonic : String)
  /-- Raised by a HOST store or load whose address is no ordinary memory (R60, R66): what answers there is
  the platform's and not in the spec (log 3). No command raises it. Safe: the model stops. -/
  | hostAccessOutsideMemory
deriving DecidableEq, Repr

/-- The architectural state (R20), the implementation parameters as plain data (log 5), the host's side of
the interface (log 1, 2) and the counters of the free values (log 4, 7). -/
structure State where
  /-- operand registers (R21) -/
  opa : LaneReg
  opb : LaneReg
  opc : LaneReg
  /-- result registers (R22) -/
  res : LaneReg
  resx : LaneReg
  /-- lane streams `S[0]` to `S[15]` (R26) -/
  streams : Vector Stream 16
  /-- `STATUS` (R29) -/
  dstate : DispatchState
  err : Response
  bound32 : BitVec 3
  bound64 : BitVec 3
  /-- `CTRL` (R30) -/
  trace : Bool
  seedOvrEn : Bool
  rngInit : Bool
  /-- `SEEDOVR` (R32), `TID` (R34), `SEEDARG`, `STREAMARG` (R35) -/
  seedOvr : Word
  tid : BitVec 16
  seedArg : Word
  streamArg : BitVec 16
  /-- `COUNT`, `SRCA`, `SRCB`, `SRCC`, `DST` (R36) -/
  count : Word
  srca : Word
  srcb : Word
  srcc : Word
  dst : Word
  /-- data memory (R60) -/
  mem : Memory
  /-- implementation parameters (R7); no step writes them -/
  params : Params
  /-- the model's own: the host actions to come (log 1), what the host's reads returned, latest first
  (log 2), how often `ENV_SEED` was sampled (log 7), how often the block was reset (log 4) -/
  pending : List HostAction
  readback : List Word
  envSamples : Nat
  resets : Nat
deriving DecidableEq, Repr

/-- A lane register after the `n`th reset: unspecified values (R40, R41; log 4). -/
def unspecifiedLanes (n first : Nat) : LaneReg := Vector.ofFn fun i => Config.resetValue n (first + i.val)

/-- The lane streams after the `n`th reset: unspecified values (R40, R41; log 4). -/
def unspecifiedStreams (n : Nat) : Vector Stream 16 :=
  Vector.ofFn fun i =>
    ⟨Config.resetValue n (128 + 4 * i.val), Config.resetValue n (129 + 4 * i.val),
     Config.resetValue n (130 + 4 * i.val), Config.resetValue n (131 + 4 * i.val)⟩

/-- An instance with the parameters `p` after its `n`th reset (R40, R271): the specified values of R40's
table, a free value in every register it leaves unspecified, memory with nothing listed, no host action. -/
def State.resetOf (p : Params) (n : Nat) : State :=
  { opa := unspecifiedLanes n 16
    opb := unspecifiedLanes n 32
    opc := unspecifiedLanes n 48
    res := unspecifiedLanes n 64
    resx := unspecifiedLanes n 80
    streams := unspecifiedStreams n
    dstate := .unselected
    err := .ok
    bound32 := 0#3
    bound64 := 0#3
    trace := false
    seedOvrEn := false
    rngInit := false
    seedOvr := Config.resetValue n 3
    tid := p.tidReset
    seedArg := Config.resetValue n 5
    streamArg := (Config.resetValue n 6).setWidth 16
    count := Config.resetValue n 7
    srca := Config.resetValue n 8
    srcb := Config.resetValue n 9
    srcc := Config.resetValue n 10
    dst := Config.resetValue n 11
    mem := []
    params := p
    pending := []
    readback := []
    envSamples := 0
    resets := n }

/-- The machine right after reset, with the default parameters (R7, R40, R271). -/
def State.reset : State := State.resetOf Config.params 0

end Sys2Proof.Machine
end

