-- ==== Sys2Proof/Machine/Ops.lean ====
section
/-! DEFINITION. The named operations over memory, registers and lane streams, and the end of a command.
The block takes no exception and returns from none (spec/60_exceptions.md R255, R256): the one shared
operation in that place is `respond` (R250). -/

namespace Sys2Proof.Machine

/-! Data memory (spec/20_memory.md R60 to R66). -/

/-- What an unlisted address reads as (log 8). -/
def unlistedByte : Byte := 0#8

/-- The byte at an address. -/
def Memory.read (m : Memory) (a : Nat) : Byte :=
  match m with
  | [] => unlistedByte
  | (b, v) :: rest => if a = b then v else Memory.read rest a

/-- Storing a byte, keeping the canonical form. -/
def Memory.write (m : Memory) (a : Nat) (v : Byte) : Memory :=
  match m with
  | [] => if v = unlistedByte then [] else [(a, v)]
  | (b, x) :: rest =>
    if a < b then (if v = unlistedByte then (b, x) :: rest else (a, v) :: (b, x) :: rest)
    else if a = b then (if v = unlistedByte then rest else (a, v) :: rest)
    else (b, x) :: Memory.write rest a v

/-- Every address of the list lies above `a`. -/
def Memory.above (a : Nat) (m : Memory) : Bool := m.all fun c => decide (a < c.1)

/-- The canonical form: strictly rising addresses below `2^64`, no byte equal to what an unlisted address
reads as. -/
def Memory.wf (m : Memory) : Bool :=
  match m with
  | [] => true
  | (a, v) :: rest => decide (a < 2 ^ 64) && decide (v ≠ unlistedByte) && Memory.above a rest && Memory.wf rest

/-- `MemRead(addr, n)` as a number: little-endian (R62). -/
def readNat (m : Memory) (a : Nat) : Nat → Nat
  | 0 => 0
  | n + 1 => (Memory.read m a).toNat + 256 * readNat m (a + 1) n

/-- `MemWrite(addr, n, v)`: the low `8n` bits of `v`, little-endian (R62). -/
def writeNat (m : Memory) (a v : Nat) : Nat → Memory
  | 0 => m
  | n + 1 => writeNat (Memory.write m a (BitVec.ofNat 8 v)) (a + 1) (v / 256) n

/-- An element of kind `K` in memory (R62, R66). -/
def readElement (k : Kind) (m : Memory) (a : Nat) : Pat k := BitVec.ofNat k.width (readNat m a k.bytes)

/-- Storing an element of kind `K` (R62, R66). -/
def writeElement (k : Kind) (m : Memory) (a : Nat) (v : Pat k) : Memory := writeNat m a v.toNat k.bytes

/-- `MEM_VALID(addr, n)`: the `n` bytes at `addr` lie in a run of ordinary memory (R7, R60; log 6). -/
def memValid (p : Params) (a n : Nat) : Bool :=
  p.memMap.any fun r => decide (r.base ≤ a) && decide (a + n ≤ r.base + r.size)

/-! The end of a command, and the dispatch state machine. -/

/-- `respond(code)`: record the response code of the command (R11, R250). -/
def respond (c : Response) (s : State) : State := { s with err := c }

/-- `HWCFG`, a constant of the implementation (R37): `log2(HWLANES32)`, `log2(HWLANES64)`, `HAS_FMA`,
`NSTREAM`. -/
def hwcfg (p : Params) : Word :=
  (p.hwLanes32.log2.setWidth 64) ||| (p.hwLanes64.log2.setWidth 64 <<< 4) ||| (1#64 <<< 8) ||| (16#64 <<< 16)

/-- `probe_and_bind()` (R226): the three writes happen inside one command. -/
def probeAndBind (s : State) : State :=
  if s.dstate = .unselected then
    let s := { s with dstate := .probed }
    let s := { s with bound32 := (hwcfg s.params).extractLsb' 0 3 }
    let s := { s with bound64 := (hwcfg s.params).extractLsb' 4 3 }
    { s with dstate := .bound }
  else s

/-! Lane registers (R21 to R23). -/

/-- Lane number `i`; element `j` of an array uses lane `j mod 16` (R221). -/
def lane (i : Nat) : Fin 16 := Fin.ofNat 16 i

/-- `lane_K(R[i])`: the low `W_K` bits of a slot (R10, R23). -/
def laneOf (k : Kind) (slot : Word) : Pat k := slot.setWidth k.width

/-- `RES[i] <- v` (R10, R22). -/
def setRes (i : Fin 16) (v : Word) (s : State) : State := { s with res := s.res.set i v }

/-- `RESX[i] <- v` (R10, R22). -/
def setResx (i : Fin 16) (v : Word) (s : State) : State := { s with resx := s.resx.set i v }

/-- `S[i] <- v` (R26). -/
def setStream (i : Fin 16) (v : Stream) (s : State) : State := { s with streams := s.streams.set i v }

/-- `MemWrite` of an element by a command (R62). -/
def storeElement (k : Kind) (a : Nat) (v : Pat k) (s : State) : State := { s with mem := writeElement k s.mem a v }

/-! Initialisation and draws (spec/43_prng.md R174 to R177). -/

/-- `init_streams(seed, idx)` and `CTRL.RNG_INIT <- 1` (R174, R175, R178). -/
def seedAll (seed : Word) (idx : BitVec 16) (s : State) : State :=
  { s with streams := initStreams s.params.prng seed idx, rngInit := true }

/-- `lazy_init()` (R175): the override seed when it is enabled, else a sample of `ENV_SEED` (log 7). -/
def lazyInit (s : State) : State :=
  if s.rngInit then s
  else if s.seedOvrEn then seedAll s.seedOvr s.tid s
  else { seedAll (Config.envSeed s.envSamples) s.tid s with envSamples := s.envSamples + 1 }

/-- `draw_raw(i)` (R176). -/
def drawRaw (i : Fin 16) (s : State) : Word × State :=
  let s := lazyInit s
  (out s.params.prng s.streams[i], setStream i (advance s.params.prng s.streams[i]) s)

/-- Running a lane function on lane stream `i` (R176, R190, R205). -/
def Lane.run {w : Nat} (l : Lane w) (i : Fin 16) (s : State) : BitVec w × State :=
  match l with
  | .plain v => (v, s)
  | .draw f => (f (drawRaw i s).1, (drawRaw i s).2)

/-- `for i in 0 .. n-1`: the body for each lane or element number in ascending order. -/
def forLanes (n : Nat) (body : Nat → State → State) (s : State) : State :=
  match n with
  | 0 => s
  | n + 1 => body n (forLanes n body s)

/-- `RES[i] <-_K` the result of a lane function: zero-extended to the slot (R10, R23). -/
def runToRes {w : Nat} (l : Lane w) (i : Fin 16) (s : State) : State :=
  setRes i ((l.run i s).1.setWidth 64) (l.run i s).2

/-- `MemWrite` of the result of a lane function (R224, R225). -/
def runToMem (k : Kind) (l : Lane k.width) (i : Fin 16) (a : Nat) (s : State) : State :=
  storeElement k a (l.run i s).1 (l.run i s).2

end Sys2Proof.Machine
end

