-- ==== Sys2Proof/Machine/Operands.lean ====
section
/-! DEFINITION. Where a command's operands are (spec/30_encoding.md R92): lanes of `OPA`, `OPB`, `OPC`, or
elements of the buffers at `SRCA`, `SRCB`, `SRCC`. A place the arity does not use is not read; the kernel
ignores the zero that stands for it. -/

namespace Sys2Proof.Machine

/-- The operands of lane `i` of a register-operand command (R92). -/
def laneOperands (op : Op) (k : Kind) (i : Fin 16) (s : State) : Operands k :=
  { a := laneOf k s.opa[i]
    b := if 2 ≤ arity op then laneOf k s.opb[i] else posZero k
    c := if 3 ≤ arity op then laneOf k s.opc[i] else posZero k }

/-- The byte address of element `j` of a buffer of kind `K` at a base address (R62, R233). -/
def elementAddr (k : Kind) (base : Word) (j : Nat) : Nat := base.toNat + j * k.bytes

/-- The operands of element `j` of an array command (R92, R225). -/
def elementOperands (op : Op) (k : Kind) (j : Nat) (s : State) : Operands k :=
  { a := readElement k s.mem (elementAddr k s.srca j)
    b := if 2 ≤ arity op then readElement k s.mem (elementAddr k s.srcb j) else posZero k
    c := if 3 ≤ arity op then readElement k s.mem (elementAddr k s.srcc j) else posZero k }

/-- The source base addresses an array command uses (R63, R92, R225). -/
def usedSources (op : Op) (s : State) : List Word :=
  s.srca :: ((if 2 ≤ arity op then [s.srcb] else []) ++ (if 3 ≤ arity op then [s.srcc] else []))

end Sys2Proof.Machine
end

