-- ==== Sys2Proof/Machine/Shapes.lean ====
section
/-! DEFINITION. The four shapes of a kernel command (spec/46_dispatch.md R220 to R225), with the checks of
spec/20_memory.md R63 to R65 in the order of R252. A command that fails a check changes `STATUS.ERR` and
nothing else (R253). -/

namespace Sys2Proof.Machine

/-- One lane of a register-to-register kernel command: `RES[i] <-_K kernel_K(operands of lane i; i)`
(R222, R223). -/
def kernelLane (m : Mode) (op : Op) (k : Kind) (i : Nat) (s : State) : State :=
  runToRes (kernel m op k (laneOperands op k (lane i) s)) (lane i) s

/-- Scalar shape (R222): lane 0, no probe. -/
def scalarKernel (m : Mode) (op : Op) (k : Kind) (s : State) : State := respond .ok (kernelLane m op k 0 s)

/-- Static vector shape (R223). -/
def staticKernel (m : Mode) (op : Op) (k : Kind) (w : Nat) (s : State) : State :=
  respond .ok (forLanes w (kernelLane m op k) (probeAndBind s))

/-- A base address is a multiple of the element size (R63). -/
def aligned (k : Kind) (b : Word) : Bool := b.toNat % k.bytes == 0

/-- The `n` elements at a base address neither pass `2^64` nor leave ordinary memory (R64); computed on
unbounded integers (R225). -/
def rangeOk (p : Params) (k : Kind) (n : Nat) (b : Word) : Bool :=
  decide (b.toNat + n * k.bytes ≤ 2 ^ 64) && memValid p b.toNat (n * k.bytes)

/-- A source range that overlaps the destination range without being identical to it (R65). -/
def overlaps (k : Kind) (n : Nat) (dst src : Word) : Bool :=
  decide (src ≠ dst) && decide (src.toNat < dst.toNat + n * k.bytes) && decide (dst.toNat < src.toNat + n * k.bytes)

/-- One lane of a dynamic vector command: the result goes to memory at `DST` (R224). -/
def dynamicLane (m : Mode) (op : Op) (k : Kind) (i : Nat) (s : State) : State :=
  runToMem k (kernel m op k (laneOperands op k (lane i) s)) (lane i) (elementAddr k s.dst i) s

/-- The checks of a dynamic vector command of `w` lanes, alignment before range (R224, R252). -/
def dynamicCheck (k : Kind) (w : Nat) (s : State) : Response :=
  if !aligned k s.dst then .align
  else if !rangeOk s.params k w s.dst then .range
  else .ok

/-- Dynamic vector shape (R224). -/
def dynamicKernel (m : Mode) (op : Op) (k : Kind) (w : Nat) (s : State) : State :=
  match dynamicCheck k w s with
  | .ok => respond .ok (forLanes w (dynamicLane m op k) (probeAndBind s))
  | code => respond code s

/-- One element of an array command: read the sources, then write the element at `DST` (R68, R225). -/
def arrayElement (m : Mode) (op : Op) (k : Kind) (j : Nat) (s : State) : State :=
  runToMem k (kernel m op k (elementOperands op k j s)) (lane j) (elementAddr k s.dst j) s

/-- The checks of an array command, in order: alignment, range, overlap; none when `COUNT = 0`
(R63 to R65, R225, R252). -/
def arrayCheck (op : Op) (k : Kind) (s : State) : Response :=
  let n := s.count.toNat
  let bases := usedSources op s ++ [s.dst]
  if n = 0 then .ok
  else if !bases.all (aligned k) then .align
  else if !bases.all (rangeOk s.params k n) then .range
  else if (usedSources op s).any (overlaps k n s.dst) then .overlap
  else .ok

/-- Array shape (R225). -/
def arrayKernel (m : Mode) (op : Op) (k : Kind) (s : State) : State :=
  match arrayCheck op k s with
  | .ok => respond .ok (forLanes s.count.toNat (arrayElement m op k) (probeAndBind s))
  | code => respond code s

end Sys2Proof.Machine
end

