-- ==== Sys2Proof/Machine/Array.lean ====
section
/-! DEFINITION. The 24 array kernel commands (spec/30_encoding.md R85; shape R225). -/

namespace Sys2Proof.Machine

/-- `sr::array::addf32` (R192, R225). -/
def execSrArrayAddF32 (s : State) : Host.Outcome State Fault Refusal := .next (arrayKernel .sr .add .f32 s)

/-- `sr::array::subf32` (R193, R225). -/
def execSrArraySubF32 (s : State) : Host.Outcome State Fault Refusal := .next (arrayKernel .sr .sub .f32 s)

/-- `sr::array::mulf32` (R194, R225). -/
def execSrArrayMulF32 (s : State) : Host.Outcome State Fault Refusal := .next (arrayKernel .sr .mul .f32 s)

/-- `sr::array::divf32` (R195, R225). -/
def execSrArrayDivF32 (s : State) : Host.Outcome State Fault Refusal := .next (arrayKernel .sr .div .f32 s)

/-- `sr::array::sqrtf32` (R196, R225). -/
def execSrArraySqrtF32 (s : State) : Host.Outcome State Fault Refusal := .next (arrayKernel .sr .sqrt .f32 s)

/-- `sr::array::fmaf32` (R197, R225). -/
def execSrArrayFmaF32 (s : State) : Host.Outcome State Fault Refusal := .next (arrayKernel .sr .fma .f32 s)

/-- `sr::array::addf64` (R192, R225). -/
def execSrArrayAddF64 (s : State) : Host.Outcome State Fault Refusal := .next (arrayKernel .sr .add .f64 s)

/-- `sr::array::subf64` (R193, R225). -/
def execSrArraySubF64 (s : State) : Host.Outcome State Fault Refusal := .next (arrayKernel .sr .sub .f64 s)

/-- `sr::array::mulf64` (R194, R225). -/
def execSrArrayMulF64 (s : State) : Host.Outcome State Fault Refusal := .next (arrayKernel .sr .mul .f64 s)

/-- `sr::array::divf64` (R195, R225). -/
def execSrArrayDivF64 (s : State) : Host.Outcome State Fault Refusal := .next (arrayKernel .sr .div .f64 s)

/-- `sr::array::sqrtf64` (R196, R225). -/
def execSrArraySqrtF64 (s : State) : Host.Outcome State Fault Refusal := .next (arrayKernel .sr .sqrt .f64 s)

/-- `sr::array::fmaf64` (R197, R225). -/
def execSrArrayFmaF64 (s : State) : Host.Outcome State Fault Refusal := .next (arrayKernel .sr .fma .f64 s)

/-- `ud::array::addf32` (R206, R225). -/
def execUdArrayAddF32 (s : State) : Host.Outcome State Fault Refusal := .next (arrayKernel .ud .add .f32 s)

/-- `ud::array::subf32` (R207, R225). -/
def execUdArraySubF32 (s : State) : Host.Outcome State Fault Refusal := .next (arrayKernel .ud .sub .f32 s)

/-- `ud::array::mulf32` (R208, R225). -/
def execUdArrayMulF32 (s : State) : Host.Outcome State Fault Refusal := .next (arrayKernel .ud .mul .f32 s)

/-- `ud::array::divf32` (R209, R225). -/
def execUdArrayDivF32 (s : State) : Host.Outcome State Fault Refusal := .next (arrayKernel .ud .div .f32 s)

/-- `ud::array::sqrtf32` (R210, R225). -/
def execUdArraySqrtF32 (s : State) : Host.Outcome State Fault Refusal := .next (arrayKernel .ud .sqrt .f32 s)

/-- `ud::array::fmaf32` (R211, R225). -/
def execUdArrayFmaF32 (s : State) : Host.Outcome State Fault Refusal := .next (arrayKernel .ud .fma .f32 s)

/-- `ud::array::addf64` (R206, R225). -/
def execUdArrayAddF64 (s : State) : Host.Outcome State Fault Refusal := .next (arrayKernel .ud .add .f64 s)

/-- `ud::array::subf64` (R207, R225). -/
def execUdArraySubF64 (s : State) : Host.Outcome State Fault Refusal := .next (arrayKernel .ud .sub .f64 s)

/-- `ud::array::mulf64` (R208, R225). -/
def execUdArrayMulF64 (s : State) : Host.Outcome State Fault Refusal := .next (arrayKernel .ud .mul .f64 s)

/-- `ud::array::divf64` (R209, R225). -/
def execUdArrayDivF64 (s : State) : Host.Outcome State Fault Refusal := .next (arrayKernel .ud .div .f64 s)

/-- `ud::array::sqrtf64` (R210, R225). -/
def execUdArraySqrtF64 (s : State) : Host.Outcome State Fault Refusal := .next (arrayKernel .ud .sqrt .f64 s)

/-- `ud::array::fmaf64` (R211, R225). -/
def execUdArrayFmaF64 (s : State) : Host.Outcome State Fault Refusal := .next (arrayKernel .ud .fma .f64 s)

end Sys2Proof.Machine
end

