-- ==== Sys2Proof/Machine/Components.lean ====
section
/-! DEFINITION. The component commands over lanes: class `PRIM` (spec/41_eft.md R144, R145;
spec/42_rounding.md R155, R156), class `RNG` (spec/43_prng.md R178 to R182), class `SYS`
(spec/46_dispatch.md R230, R231). None of them probes but `sys::probe` (R227). -/

namespace Sys2Proof.Machine

/-- Lane `i` of an operand register, as kind `K` (R92). -/
def operandA (k : Kind) (i : Nat) (s : State) : Pat k := laneOf k s.opa[lane i]

/-- Lane `i` of `OPB` (R92). -/
def operandB (k : Kind) (i : Nat) (s : State) : Pat k := laneOf k s.opb[lane i]

/-- Lane `i` of `OPC` (R92). -/
def operandC (k : Kind) (i : Nat) (s : State) : Pat k := laneOf k s.opc[lane i]

/-- `RES[i] <-_K sigma`, `RESX[i] <-_K tau` (R22, R144). -/
def setPair (k : Kind) (i : Nat) (p : ErrorPair k) (s : State) : State :=
  setResx (lane i) (p.tau.setWidth 64) (setRes (lane i) (p.sigma.setWidth 64) s)

/-- One lane of `prim::twosum` (R144). -/
def twosumLane (k : Kind) (i : Nat) (s : State) : State :=
  setPair k i (twosum k (operandA k i s) (operandB k i s)) s

/-- `prim::twosum` (R144). -/
def twosumLanes (k : Kind) (w : Nat) (s : State) : State := respond .ok (forLanes w (twosumLane k) s)

/-- One lane of `prim::twoprod` (R145). -/
def twoprodLane (k : Kind) (i : Nat) (s : State) : State :=
  setPair k i (twoprod k (operandA k i s) (operandB k i s)) s

/-- `prim::twoprod` (R145). -/
def twoprodLanes (k : Kind) (w : Nat) (s : State) : State := respond .ok (forLanes w (twoprodLane k) s)

/-- One lane of `prim::srround` (R155): `z` is an operand, nothing is drawn. -/
def srRoundLane (k : Kind) (i : Nat) (s : State) : State :=
  setRes (lane i) ((srRound k (operandA k i s) (operandB k i s) (operandC k i s)).setWidth 64) s

/-- `prim::srround` (R155). -/
def srRoundLanes (k : Kind) (w : Nat) (s : State) : State := respond .ok (forLanes w (srRoundLane k) s)

/-- One lane of `prim::udround` (R156). -/
def udRoundLane (k : Kind) (i : Nat) (s : State) : State := runToRes (udRound k (operandA k i s)) (lane i) s

/-- `prim::udround` (R156). -/
def udRoundLanes (k : Kind) (w : Nat) (s : State) : State := respond .ok (forLanes w (udRoundLane k) s)

/-- `rng::seed` (R178). -/
def seedStreams (s : State) : State := respond .ok (seedAll s.seedArg s.streamArg s)

/-- One lane of `rng::next`: the whole 64-bit slot (R179). -/
def nextLane (i : Nat) (s : State) : State := runToRes (Lane.draw (w := 64) id) (lane i) s

/-- `rng::next` (R179). -/
def nextLanes (w : Nat) (s : State) : State := respond .ok (forLanes w nextLane s)

/-- One lane of `rng::uniform` (R180). -/
def uniformLane (k : Kind) (i : Nat) (s : State) : State := runToRes (Lane.draw (uniform k)) (lane i) s

/-- `rng::uniform` (R180). -/
def uniformLanes (k : Kind) (w : Nat) (s : State) : State := respond .ok (forLanes w (uniformLane k) s)

/-- One lane of `rng::jump` (R181). -/
def jumpLane (i : Nat) (s : State) : State := setStream (lane i) (jump s.params.prng s.streams[lane i]) s

/-- `rng::jump`: lazy initialisation, then one jump in each lane (R181). -/
def jumpLanes (w : Nat) (s : State) : State := respond .ok (forLanes w jumpLane (lazyInit s))

/-- One lane of `rng::ljump` (R182). -/
def ljumpLane (i : Nat) (s : State) : State := setStream (lane i) (ljump s.params.prng s.streams[lane i]) s

/-- `rng::ljump` (R182). -/
def ljumpLanes (w : Nat) (s : State) : State := respond .ok (forLanes w ljumpLane (lazyInit s))

/-- `sys::nop` (R230). -/
def nopCommand (s : State) : State := respond .ok s

/-- `sys::probe` (R231). -/
def probeCommand (s : State) : State := respond .ok (probeAndBind s)

end Sys2Proof.Machine
end

