-- ==== Sys2Proof/Machine/Prim.lean ====
section
/-! DEFINITION. The 40 component commands (spec/30_encoding.md R86). -/

namespace Sys2Proof.Machine

/-- `prim::twosumf32` (R144). -/
def execPrimTwosumF32 (s : State) : Host.Outcome State Fault Refusal := .next (twosumLanes .f32 1 s)

/-- `prim::twoprodf32` (R145). -/
def execPrimTwoprodF32 (s : State) : Host.Outcome State Fault Refusal := .next (twoprodLanes .f32 1 s)

/-- `prim::srroundf32` (R155). -/
def execPrimSrroundF32 (s : State) : Host.Outcome State Fault Refusal := .next (srRoundLanes .f32 1 s)

/-- `prim::udroundf32` (R156). -/
def execPrimUdroundF32 (s : State) : Host.Outcome State Fault Refusal := .next (udRoundLanes .f32 1 s)

/-- `prim::twosumf32x2` (R144). -/
def execPrimTwosumF32X2 (s : State) : Host.Outcome State Fault Refusal := .next (twosumLanes .f32 2 s)

/-- `prim::twoprodf32x2` (R145). -/
def execPrimTwoprodF32X2 (s : State) : Host.Outcome State Fault Refusal := .next (twoprodLanes .f32 2 s)

/-- `prim::srroundf32x2` (R155). -/
def execPrimSrroundF32X2 (s : State) : Host.Outcome State Fault Refusal := .next (srRoundLanes .f32 2 s)

/-- `prim::udroundf32x2` (R156). -/
def execPrimUdroundF32X2 (s : State) : Host.Outcome State Fault Refusal := .next (udRoundLanes .f32 2 s)

/-- `prim::twosumf32x4` (R144). -/
def execPrimTwosumF32X4 (s : State) : Host.Outcome State Fault Refusal := .next (twosumLanes .f32 4 s)

/-- `prim::twoprodf32x4` (R145). -/
def execPrimTwoprodF32X4 (s : State) : Host.Outcome State Fault Refusal := .next (twoprodLanes .f32 4 s)

/-- `prim::srroundf32x4` (R155). -/
def execPrimSrroundF32X4 (s : State) : Host.Outcome State Fault Refusal := .next (srRoundLanes .f32 4 s)

/-- `prim::udroundf32x4` (R156). -/
def execPrimUdroundF32X4 (s : State) : Host.Outcome State Fault Refusal := .next (udRoundLanes .f32 4 s)

/-- `prim::twosumf32x8` (R144). -/
def execPrimTwosumF32X8 (s : State) : Host.Outcome State Fault Refusal := .next (twosumLanes .f32 8 s)

/-- `prim::twoprodf32x8` (R145). -/
def execPrimTwoprodF32X8 (s : State) : Host.Outcome State Fault Refusal := .next (twoprodLanes .f32 8 s)

/-- `prim::srroundf32x8` (R155). -/
def execPrimSrroundF32X8 (s : State) : Host.Outcome State Fault Refusal := .next (srRoundLanes .f32 8 s)

/-- `prim::udroundf32x8` (R156). -/
def execPrimUdroundF32X8 (s : State) : Host.Outcome State Fault Refusal := .next (udRoundLanes .f32 8 s)

/-- `prim::twosumf32x16` (R144). -/
def execPrimTwosumF32X16 (s : State) : Host.Outcome State Fault Refusal := .next (twosumLanes .f32 16 s)

/-- `prim::twoprodf32x16` (R145). -/
def execPrimTwoprodF32X16 (s : State) : Host.Outcome State Fault Refusal := .next (twoprodLanes .f32 16 s)

/-- `prim::srroundf32x16` (R155). -/
def execPrimSrroundF32X16 (s : State) : Host.Outcome State Fault Refusal := .next (srRoundLanes .f32 16 s)

/-- `prim::udroundf32x16` (R156). -/
def execPrimUdroundF32X16 (s : State) : Host.Outcome State Fault Refusal := .next (udRoundLanes .f32 16 s)

/-- `prim::twosumf64` (R144). -/
def execPrimTwosumF64 (s : State) : Host.Outcome State Fault Refusal := .next (twosumLanes .f64 1 s)

/-- `prim::twoprodf64` (R145). -/
def execPrimTwoprodF64 (s : State) : Host.Outcome State Fault Refusal := .next (twoprodLanes .f64 1 s)

/-- `prim::srroundf64` (R155). -/
def execPrimSrroundF64 (s : State) : Host.Outcome State Fault Refusal := .next (srRoundLanes .f64 1 s)

/-- `prim::udroundf64` (R156). -/
def execPrimUdroundF64 (s : State) : Host.Outcome State Fault Refusal := .next (udRoundLanes .f64 1 s)

/-- `prim::twosumf64x2` (R144). -/
def execPrimTwosumF64X2 (s : State) : Host.Outcome State Fault Refusal := .next (twosumLanes .f64 2 s)

/-- `prim::twoprodf64x2` (R145). -/
def execPrimTwoprodF64X2 (s : State) : Host.Outcome State Fault Refusal := .next (twoprodLanes .f64 2 s)

/-- `prim::srroundf64x2` (R155). -/
def execPrimSrroundF64X2 (s : State) : Host.Outcome State Fault Refusal := .next (srRoundLanes .f64 2 s)

/-- `prim::udroundf64x2` (R156). -/
def execPrimUdroundF64X2 (s : State) : Host.Outcome State Fault Refusal := .next (udRoundLanes .f64 2 s)

/-- `prim::twosumf64x4` (R144). -/
def execPrimTwosumF64X4 (s : State) : Host.Outcome State Fault Refusal := .next (twosumLanes .f64 4 s)

/-- `prim::twoprodf64x4` (R145). -/
def execPrimTwoprodF64X4 (s : State) : Host.Outcome State Fault Refusal := .next (twoprodLanes .f64 4 s)

/-- `prim::srroundf64x4` (R155). -/
def execPrimSrroundF64X4 (s : State) : Host.Outcome State Fault Refusal := .next (srRoundLanes .f64 4 s)

/-- `prim::udroundf64x4` (R156). -/
def execPrimUdroundF64X4 (s : State) : Host.Outcome State Fault Refusal := .next (udRoundLanes .f64 4 s)

/-- `prim::twosumf64x8` (R144). -/
def execPrimTwosumF64X8 (s : State) : Host.Outcome State Fault Refusal := .next (twosumLanes .f64 8 s)

/-- `prim::twoprodf64x8` (R145). -/
def execPrimTwoprodF64X8 (s : State) : Host.Outcome State Fault Refusal := .next (twoprodLanes .f64 8 s)

/-- `prim::srroundf64x8` (R155). -/
def execPrimSrroundF64X8 (s : State) : Host.Outcome State Fault Refusal := .next (srRoundLanes .f64 8 s)

/-- `prim::udroundf64x8` (R156). -/
def execPrimUdroundF64X8 (s : State) : Host.Outcome State Fault Refusal := .next (udRoundLanes .f64 8 s)

/-- `prim::twosumf64x16` (R144). -/
def execPrimTwosumF64X16 (s : State) : Host.Outcome State Fault Refusal := .next (twosumLanes .f64 16 s)

/-- `prim::twoprodf64x16` (R145). -/
def execPrimTwoprodF64X16 (s : State) : Host.Outcome State Fault Refusal := .next (twoprodLanes .f64 16 s)

/-- `prim::srroundf64x16` (R155). -/
def execPrimSrroundF64X16 (s : State) : Host.Outcome State Fault Refusal := .next (srRoundLanes .f64 16 s)

/-- `prim::udroundf64x16` (R156). -/
def execPrimUdroundF64X16 (s : State) : Host.Outcome State Fault Refusal := .next (udRoundLanes .f64 16 s)

end Sys2Proof.Machine
end

