-- ==== Sys2Proof/Machine/Rng.lean ====
section
/-! DEFINITION. The 26 random-stream commands (spec/30_encoding.md R87). -/

namespace Sys2Proof.Machine

/-- `rng::seed` (R178). -/
def execRngSeed (s : State) : Host.Outcome State Fault Refusal := .next (seedStreams s)

/-- `rng::next` (R179). -/
def execRngNext (s : State) : Host.Outcome State Fault Refusal := .next (nextLanes 1 s)

/-- `rng::uniformf32` (R180). -/
def execRngUniformF32 (s : State) : Host.Outcome State Fault Refusal := .next (uniformLanes .f32 1 s)

/-- `rng::jump` (R181). -/
def execRngJump (s : State) : Host.Outcome State Fault Refusal := .next (jumpLanes 1 s)

/-- `rng::ljump` (R182). -/
def execRngLjump (s : State) : Host.Outcome State Fault Refusal := .next (ljumpLanes 1 s)

/-- `rng::nextx2` (R179). -/
def execRngNextX2 (s : State) : Host.Outcome State Fault Refusal := .next (nextLanes 2 s)

/-- `rng::uniformf32x2` (R180). -/
def execRngUniformF32X2 (s : State) : Host.Outcome State Fault Refusal := .next (uniformLanes .f32 2 s)

/-- `rng::jumpx2` (R181). -/
def execRngJumpX2 (s : State) : Host.Outcome State Fault Refusal := .next (jumpLanes 2 s)

/-- `rng::ljumpx2` (R182). -/
def execRngLjumpX2 (s : State) : Host.Outcome State Fault Refusal := .next (ljumpLanes 2 s)

/-- `rng::nextx4` (R179). -/
def execRngNextX4 (s : State) : Host.Outcome State Fault Refusal := .next (nextLanes 4 s)

/-- `rng::uniformf32x4` (R180). -/
def execRngUniformF32X4 (s : State) : Host.Outcome State Fault Refusal := .next (uniformLanes .f32 4 s)

/-- `rng::jumpx4` (R181). -/
def execRngJumpX4 (s : State) : Host.Outcome State Fault Refusal := .next (jumpLanes 4 s)

/-- `rng::ljumpx4` (R182). -/
def execRngLjumpX4 (s : State) : Host.Outcome State Fault Refusal := .next (ljumpLanes 4 s)

/-- `rng::nextx8` (R179). -/
def execRngNextX8 (s : State) : Host.Outcome State Fault Refusal := .next (nextLanes 8 s)

/-- `rng::uniformf32x8` (R180). -/
def execRngUniformF32X8 (s : State) : Host.Outcome State Fault Refusal := .next (uniformLanes .f32 8 s)

/-- `rng::jumpx8` (R181). -/
def execRngJumpX8 (s : State) : Host.Outcome State Fault Refusal := .next (jumpLanes 8 s)

/-- `rng::ljumpx8` (R182). -/
def execRngLjumpX8 (s : State) : Host.Outcome State Fault Refusal := .next (ljumpLanes 8 s)

/-- `rng::nextx16` (R179). -/
def execRngNextX16 (s : State) : Host.Outcome State Fault Refusal := .next (nextLanes 16 s)

/-- `rng::uniformf32x16` (R180). -/
def execRngUniformF32X16 (s : State) : Host.Outcome State Fault Refusal := .next (uniformLanes .f32 16 s)

/-- `rng::jumpx16` (R181). -/
def execRngJumpX16 (s : State) : Host.Outcome State Fault Refusal := .next (jumpLanes 16 s)

/-- `rng::ljumpx16` (R182). -/
def execRngLjumpX16 (s : State) : Host.Outcome State Fault Refusal := .next (ljumpLanes 16 s)

/-- `rng::uniformf64` (R180). -/
def execRngUniformF64 (s : State) : Host.Outcome State Fault Refusal := .next (uniformLanes .f64 1 s)

/-- `rng::uniformf64x2` (R180). -/
def execRngUniformF64X2 (s : State) : Host.Outcome State Fault Refusal := .next (uniformLanes .f64 2 s)

/-- `rng::uniformf64x4` (R180). -/
def execRngUniformF64X4 (s : State) : Host.Outcome State Fault Refusal := .next (uniformLanes .f64 4 s)

/-- `rng::uniformf64x8` (R180). -/
def execRngUniformF64X8 (s : State) : Host.Outcome State Fault Refusal := .next (uniformLanes .f64 8 s)

/-- `rng::uniformf64x16` (R180). -/
def execRngUniformF64X16 (s : State) : Host.Outcome State Fault Refusal := .next (uniformLanes .f64 16 s)

end Sys2Proof.Machine
end

