-- ==== Sys2Proof/Machine/Scalar.lean ====
section
/-! DEFINITION. The 24 scalar kernel commands (spec/30_encoding.md R84; shape R222). -/

namespace Sys2Proof.Machine

/-- `sr::scalar::addf32` (R192, R222). -/
def execSrScalarAddF32 (s : State) : Host.Outcome State Fault Refusal := .next (scalarKernel .sr .add .f32 s)

/-- `sr::scalar::subf32` (R193, R222). -/
def execSrScalarSubF32 (s : State) : Host.Outcome State Fault Refusal := .next (scalarKernel .sr .sub .f32 s)

/-- `sr::scalar::mulf32` (R194, R222). -/
def execSrScalarMulF32 (s : State) : Host.Outcome State Fault Refusal := .next (scalarKernel .sr .mul .f32 s)

/-- `sr::scalar::divf32` (R195, R222). -/
def execSrScalarDivF32 (s : State) : Host.Outcome State Fault Refusal := .next (scalarKernel .sr .div .f32 s)

/-- `sr::scalar::sqrtf32` (R196, R222). -/
def execSrScalarSqrtF32 (s : State) : Host.Outcome State Fault Refusal := .next (scalarKernel .sr .sqrt .f32 s)

/-- `sr::scalar::fmaf32` (R197, R222). -/
def execSrScalarFmaF32 (s : State) : Host.Outcome State Fault Refusal := .next (scalarKernel .sr .fma .f32 s)

/-- `sr::scalar::addf64` (R192, R222). -/
def execSrScalarAddF64 (s : State) : Host.Outcome State Fault Refusal := .next (scalarKernel .sr .add .f64 s)

/-- `sr::scalar::subf64` (R193, R222). -/
def execSrScalarSubF64 (s : State) : Host.Outcome State Fault Refusal := .next (scalarKernel .sr .sub .f64 s)

/-- `sr::scalar::mulf64` (R194, R222). -/
def execSrScalarMulF64 (s : State) : Host.Outcome State Fault Refusal := .next (scalarKernel .sr .mul .f64 s)

/-- `sr::scalar::divf64` (R195, R222). -/
def execSrScalarDivF64 (s : State) : Host.Outcome State Fault Refusal := .next (scalarKernel .sr .div .f64 s)

/-- `sr::scalar::sqrtf64` (R196, R222). -/
def execSrScalarSqrtF64 (s : State) : Host.Outcome State Fault Refusal := .next (scalarKernel .sr .sqrt .f64 s)

/-- `sr::scalar::fmaf64` (R197, R222). -/
def execSrScalarFmaF64 (s : State) : Host.Outcome State Fault Refusal := .next (scalarKernel .sr .fma .f64 s)

/-- `ud::scalar::addf32` (R206, R222). -/
def execUdScalarAddF32 (s : State) : Host.Outcome State Fault Refusal := .next (scalarKernel .ud .add .f32 s)

/-- `ud::scalar::subf32` (R207, R222). -/
def execUdScalarSubF32 (s : State) : Host.Outcome State Fault Refusal := .next (scalarKernel .ud .sub .f32 s)

/-- `ud::scalar::mulf32` (R208, R222). -/
def execUdScalarMulF32 (s : State) : Host.Outcome State Fault Refusal := .next (scalarKernel .ud .mul .f32 s)

/-- `ud::scalar::divf32` (R209, R222). -/
def execUdScalarDivF32 (s : State) : Host.Outcome State Fault Refusal := .next (scalarKernel .ud .div .f32 s)

/-- `ud::scalar::sqrtf32` (R210, R222). -/
def execUdScalarSqrtF32 (s : State) : Host.Outcome State Fault Refusal := .next (scalarKernel .ud .sqrt .f32 s)

/-- `ud::scalar::fmaf32` (R211, R222). -/
def execUdScalarFmaF32 (s : State) : Host.Outcome State Fault Refusal := .next (scalarKernel .ud .fma .f32 s)

/-- `ud::scalar::addf64` (R206, R222). -/
def execUdScalarAddF64 (s : State) : Host.Outcome State Fault Refusal := .next (scalarKernel .ud .add .f64 s)

/-- `ud::scalar::subf64` (R207, R222). -/
def execUdScalarSubF64 (s : State) : Host.Outcome State Fault Refusal := .next (scalarKernel .ud .sub .f64 s)

/-- `ud::scalar::mulf64` (R208, R222). -/
def execUdScalarMulF64 (s : State) : Host.Outcome State Fault Refusal := .next (scalarKernel .ud .mul .f64 s)

/-- `ud::scalar::divf64` (R209, R222). -/
def execUdScalarDivF64 (s : State) : Host.Outcome State Fault Refusal := .next (scalarKernel .ud .div .f64 s)

/-- `ud::scalar::sqrtf64` (R210, R222). -/
def execUdScalarSqrtF64 (s : State) : Host.Outcome State Fault Refusal := .next (scalarKernel .ud .sqrt .f64 s)

/-- `ud::scalar::fmaf64` (R211, R222). -/
def execUdScalarFmaF64 (s : State) : Host.Outcome State Fault Refusal := .next (scalarKernel .ud .fma .f64 s)

end Sys2Proof.Machine
end

