-- ==== Sys2Proof/Machine/Sys.lean ====
section
/-! DEFINITION. The two system commands (spec/30_encoding.md R88). -/

namespace Sys2Proof.Machine

/-- `sys::nop` (R230). -/
def execSysNop (s : State) : Host.Outcome State Fault Refusal := .next (nopCommand s)

/-- `sys::probe` (R231). -/
def execSysProbe (s : State) : Host.Outcome State Fault Refusal := .next (probeCommand s)

end Sys2Proof.Machine
end

