-- ==== Sys2Proof/Machine/VectorDynamic.lean ====
section
/-! DEFINITION. The 96 dynamic vector kernel commands (spec/30_encoding.md R84; shape R224). -/

namespace Sys2Proof.Machine

/-- `sr::vector::addf32x2_dynamic` (R192, R224). -/
def execSrVectorAddF32X2Dynamic (s : State) : Host.Outcome State Fault Refusal := .next (dynamicKernel .sr .add .f32 2 s)

/-- `sr::vector::subf32x2_dynamic` (R193, R224). -/
def execSrVectorSubF32X2Dynamic (s : State) : Host.Outcome State Fault Refusal := .next (dynamicKernel .sr .sub .f32 2 s)

/-- `sr::vector::mulf32x2_dynamic` (R194, R224). -/
def execSrVectorMulF32X2Dynamic (s : State) : Host.Outcome State Fault Refusal := .next (dynamicKernel .sr .mul .f32 2 s)

/-- `sr::vector::divf32x2_dynamic` (R195, R224). -/
def execSrVectorDivF32X2Dynamic (s : State) : Host.Outcome State Fault Refusal := .next (dynamicKernel .sr .div .f32 2 s)

/-- `sr::vector::sqrtf32x2_dynamic` (R196, R224). -/
def execSrVectorSqrtF32X2Dynamic (s : State) : Host.Outcome State Fault Refusal := .next (dynamicKernel .sr .sqrt .f32 2 s)

/-- `sr::vector::fmaf32x2_dynamic` (R197, R224). -/
def execSrVectorFmaF32X2Dynamic (s : State) : Host.Outcome State Fault Refusal := .next (dynamicKernel .sr .fma .f32 2 s)

/-- `sr::vector::addf32x4_dynamic` (R192, R224). -/
def execSrVectorAddF32X4Dynamic (s : State) : Host.Outcome State Fault Refusal := .next (dynamicKernel .sr .add .f32 4 s)

/-- `sr::vector::subf32x4_dynamic` (R193, R224). -/
def execSrVectorSubF32X4Dynamic (s : State) : Host.Outcome State Fault Refusal := .next (dynamicKernel .sr .sub .f32 4 s)

/-- `sr::vector::mulf32x4_dynamic` (R194, R224). -/
def execSrVectorMulF32X4Dynamic (s : State) : Host.Outcome State Fault Refusal := .next (dynamicKernel .sr .mul .f32 4 s)

/-- `sr::vector::divf32x4_dynamic` (R195, R224). -/
def execSrVectorDivF32X4Dynamic (s : State) : Host.Outcome State Fault Refusal := .next (dynamicKernel .sr .div .f32 4 s)

/-- `sr::vector::sqrtf32x4_dynamic` (R196, R224). -/
def execSrVectorSqrtF32X4Dynamic (s : State) : Host.Outcome State Fault Refusal := .next (dynamicKernel .sr .sqrt .f32 4 s)

/-- `sr::vector::fmaf32x4_dynamic` (R197, R224). -/
def execSrVectorFmaF32X4Dynamic (s : State) : Host.Outcome State Fault Refusal := .next (dynamicKernel .sr .fma .f32 4 s)

/-- `sr::vector::addf32x8_dynamic` (R192, R224). -/
def execSrVectorAddF32X8Dynamic (s : State) : Host.Outcome State Fault Refusal := .next (dynamicKernel .sr .add .f32 8 s)

/-- `sr::vector::subf32x8_dynamic` (R193, R224). -/
def execSrVectorSubF32X8Dynamic (s : State) : Host.Outcome State Fault Refusal := .next (dynamicKernel .sr .sub .f32 8 s)

/-- `sr::vector::mulf32x8_dynamic` (R194, R224). -/
def execSrVectorMulF32X8Dynamic (s : State) : Host.Outcome State Fault Refusal := .next (dynamicKernel .sr .mul .f32 8 s)

/-- `sr::vector::divf32x8_dynamic` (R195, R224). -/
def execSrVectorDivF32X8Dynamic (s : State) : Host.Outcome State Fault Refusal := .next (dynamicKernel .sr .div .f32 8 s)

/-- `sr::vector::sqrtf32x8_dynamic` (R196, R224). -/
def execSrVectorSqrtF32X8Dynamic (s : State) : Host.Outcome State Fault Refusal := .next (dynamicKernel .sr .sqrt .f32 8 s)

/-- `sr::vector::fmaf32x8_dynamic` (R197, R224). -/
def execSrVectorFmaF32X8Dynamic (s : State) : Host.Outcome State Fault Refusal := .next (dynamicKernel .sr .fma .f32 8 s)

/-- `sr::vector::addf32x16_dynamic` (R192, R224). -/
def execSrVectorAddF32X16Dynamic (s : State) : Host.Outcome State Fault Refusal := .next (dynamicKernel .sr .add .f32 16 s)

/-- `sr::vector::subf32x16_dynamic` (R193, R224). -/
def execSrVectorSubF32X16Dynamic (s : State) : Host.Outcome State Fault Refusal := .next (dynamicKernel .sr .sub .f32 16 s)

/-- `sr::vector::mulf32x16_dynamic` (R194, R224). -/
def execSrVectorMulF32X16Dynamic (s : State) : Host.Outcome State Fault Refusal := .next (dynamicKernel .sr .mul .f32 16 s)

/-- `sr::vector::divf32x16_dynamic` (R195, R224). -/
def execSrVectorDivF32X16Dynamic (s : State) : Host.Outcome State Fault Refusal := .next (dynamicKernel .sr .div .f32 16 s)

/-- `sr::vector::sqrtf32x16_dynamic` (R196, R224). -/
def execSrVectorSqrtF32X16Dynamic (s : State) : Host.Outcome State Fault Refusal := .next (dynamicKernel .sr .sqrt .f32 16 s)

/-- `sr::vector::fmaf32x16_dynamic` (R197, R224). -/
def execSrVectorFmaF32X16Dynamic (s : State) : Host.Outcome State Fault Refusal := .next (dynamicKernel .sr .fma .f32 16 s)

/-- `sr::vector::addf64x2_dynamic` (R192, R224). -/
def execSrVectorAddF64X2Dynamic (s : State) : Host.Outcome State Fault Refusal := .next (dynamicKernel .sr .add .f64 2 s)

/-- `sr::vector::subf64x2_dynamic` (R193, R224). -/
def execSrVectorSubF64X2Dynamic (s : State) : Host.Outcome State Fault Refusal := .next (dynamicKernel .sr .sub .f64 2 s)

/-- `sr::vector::mulf64x2_dynamic` (R194, R224). -/
def execSrVectorMulF64X2Dynamic (s : State) : Host.Outcome State Fault Refusal := .next (dynamicKernel .sr .mul .f64 2 s)

/-- `sr::vector::divf64x2_dynamic` (R195, R224). -/
def execSrVectorDivF64X2Dynamic (s : State) : Host.Outcome State Fault Refusal := .next (dynamicKernel .sr .div .f64 2 s)

/-- `sr::vector::sqrtf64x2_dynamic` (R196, R224). -/
def execSrVectorSqrtF64X2Dynamic (s : State) : Host.Outcome State Fault Refusal := .next (dynamicKernel .sr .sqrt .f64 2 s)

/-- `sr::vector::fmaf64x2_dynamic` (R197, R224). -/
def execSrVectorFmaF64X2Dynamic (s : State) : Host.Outcome State Fault Refusal := .next (dynamicKernel .sr .fma .f64 2 s)

/-- `sr::vector::addf64x4_dynamic` (R192, R224). -/
def execSrVectorAddF64X4Dynamic (s : State) : Host.Outcome State Fault Refusal := .next (dynamicKernel .sr .add .f64 4 s)

/-- `sr::vector::subf64x4_dynamic` (R193, R224). -/
def execSrVectorSubF64X4Dynamic (s : State) : Host.Outcome State Fault Refusal := .next (dynamicKernel .sr .sub .f64 4 s)

/-- `sr::vector::mulf64x4_dynamic` (R194, R224). -/
def execSrVectorMulF64X4Dynamic (s : State) : Host.Outcome State Fault Refusal := .next (dynamicKernel .sr .mul .f64 4 s)

/-- `sr::vector::divf64x4_dynamic` (R195, R224). -/
def execSrVectorDivF64X4Dynamic (s : State) : Host.Outcome State Fault Refusal := .next (dynamicKernel .sr .div .f64 4 s)

/-- `sr::vector::sqrtf64x4_dynamic` (R196, R224). -/
def execSrVectorSqrtF64X4Dynamic (s : State) : Host.Outcome State Fault Refusal := .next (dynamicKernel .sr .sqrt .f64 4 s)

/-- `sr::vector::fmaf64x4_dynamic` (R197, R224). -/
def execSrVectorFmaF64X4Dynamic (s : State) : Host.Outcome State Fault Refusal := .next (dynamicKernel .sr .fma .f64 4 s)

/-- `sr::vector::addf64x8_dynamic` (R192, R224). -/
def execSrVectorAddF64X8Dynamic (s : State) : Host.Outcome State Fault Refusal := .next (dynamicKernel .sr .add .f64 8 s)

/-- `sr::vector::subf64x8_dynamic` (R193, R224). -/
def execSrVectorSubF64X8Dynamic (s : State) : Host.Outcome State Fault Refusal := .next (dynamicKernel .sr .sub .f64 8 s)

/-- `sr::vector::mulf64x8_dynamic` (R194, R224). -/
def execSrVectorMulF64X8Dynamic (s : State) : Host.Outcome State Fault Refusal := .next (dynamicKernel .sr .mul .f64 8 s)

/-- `sr::vector::divf64x8_dynamic` (R195, R224). -/
def execSrVectorDivF64X8Dynamic (s : State) : Host.Outcome State Fault Refusal := .next (dynamicKernel .sr .div .f64 8 s)

/-- `sr::vector::sqrtf64x8_dynamic` (R196, R224). -/
def execSrVectorSqrtF64X8Dynamic (s : State) : Host.Outcome State Fault Refusal := .next (dynamicKernel .sr .sqrt .f64 8 s)

/-- `sr::vector::fmaf64x8_dynamic` (R197, R224). -/
def execSrVectorFmaF64X8Dynamic (s : State) : Host.Outcome State Fault Refusal := .next (dynamicKernel .sr .fma .f64 8 s)

/-- `sr::vector::addf64x16_dynamic` (R192, R224). -/
def execSrVectorAddF64X16Dynamic (s : State) : Host.Outcome State Fault Refusal := .next (dynamicKernel .sr .add .f64 16 s)

/-- `sr::vector::subf64x16_dynamic` (R193, R224). -/
def execSrVectorSubF64X16Dynamic (s : State) : Host.Outcome State Fault Refusal := .next (dynamicKernel .sr .sub .f64 16 s)

/-- `sr::vector::mulf64x16_dynamic` (R194, R224). -/
def execSrVectorMulF64X16Dynamic (s : State) : Host.Outcome State Fault Refusal := .next (dynamicKernel .sr .mul .f64 16 s)

/-- `sr::vector::divf64x16_dynamic` (R195, R224). -/
def execSrVectorDivF64X16Dynamic (s : State) : Host.Outcome State Fault Refusal := .next (dynamicKernel .sr .div .f64 16 s)

/-- `sr::vector::sqrtf64x16_dynamic` (R196, R224). -/
def execSrVectorSqrtF64X16Dynamic (s : State) : Host.Outcome State Fault Refusal := .next (dynamicKernel .sr .sqrt .f64 16 s)

/-- `sr::vector::fmaf64x16_dynamic` (R197, R224). -/
def execSrVectorFmaF64X16Dynamic (s : State) : Host.Outcome State Fault Refusal := .next (dynamicKernel .sr .fma .f64 16 s)

/-- `ud::vector::addf32x2_dynamic` (R206, R224). -/
def execUdVectorAddF32X2Dynamic (s : State) : Host.Outcome State Fault Refusal := .next (dynamicKernel .ud .add .f32 2 s)

/-- `ud::vector::subf32x2_dynamic` (R207, R224). -/
def execUdVectorSubF32X2Dynamic (s : State) : Host.Outcome State Fault Refusal := .next (dynamicKernel .ud .sub .f32 2 s)

/-- `ud::vector::mulf32x2_dynamic` (R208, R224). -/
def execUdVectorMulF32X2Dynamic (s : State) : Host.Outcome State Fault Refusal := .next (dynamicKernel .ud .mul .f32 2 s)

/-- `ud::vector::divf32x2_dynamic` (R209, R224). -/
def execUdVectorDivF32X2Dynamic (s : State) : Host.Outcome State Fault Refusal := .next (dynamicKernel .ud .div .f32 2 s)

/-- `ud::vector::sqrtf32x2_dynamic` (R210, R224). -/
def execUdVectorSqrtF32X2Dynamic (s : State) : Host.Outcome State Fault Refusal := .next (dynamicKernel .ud .sqrt .f32 2 s)

/-- `ud::vector::fmaf32x2_dynamic` (R211, R224). -/
def execUdVectorFmaF32X2Dynamic (s : State) : Host.Outcome State Fault Refusal := .next (dynamicKernel .ud .fma .f32 2 s)

/-- `ud::vector::addf32x4_dynamic` (R206, R224). -/
def execUdVectorAddF32X4Dynamic (s : State) : Host.Outcome State Fault Refusal := .next (dynamicKernel .ud .add .f32 4 s)

/-- `ud::vector::subf32x4_dynamic` (R207, R224). -/
def execUdVectorSubF32X4Dynamic (s : State) : Host.Outcome State Fault Refusal := .next (dynamicKernel .ud .sub .f32 4 s)

/-- `ud::vector::mulf32x4_dynamic` (R208, R224). -/
def execUdVectorMulF32X4Dynamic (s : State) : Host.Outcome State Fault Refusal := .next (dynamicKernel .ud .mul .f32 4 s)

/-- `ud::vector::divf32x4_dynamic` (R209, R224). -/
def execUdVectorDivF32X4Dynamic (s : State) : Host.Outcome State Fault Refusal := .next (dynamicKernel .ud .div .f32 4 s)

/-- `ud::vector::sqrtf32x4_dynamic` (R210, R224). -/
def execUdVectorSqrtF32X4Dynamic (s : State) : Host.Outcome State Fault Refusal := .next (dynamicKernel .ud .sqrt .f32 4 s)

/-- `ud::vector::fmaf32x4_dynamic` (R211, R224). -/
def execUdVectorFmaF32X4Dynamic (s : State) : Host.Outcome State Fault Refusal := .next (dynamicKernel .ud .fma .f32 4 s)

/-- `ud::vector::addf32x8_dynamic` (R206, R224). -/
def execUdVectorAddF32X8Dynamic (s : State) : Host.Outcome State Fault Refusal := .next (dynamicKernel .ud .add .f32 8 s)

/-- `ud::vector::subf32x8_dynamic` (R207, R224). -/
def execUdVectorSubF32X8Dynamic (s : State) : Host.Outcome State Fault Refusal := .next (dynamicKernel .ud .sub .f32 8 s)

/-- `ud::vector::mulf32x8_dynamic` (R208, R224). -/
def execUdVectorMulF32X8Dynamic (s : State) : Host.Outcome State Fault Refusal := .next (dynamicKernel .ud .mul .f32 8 s)

/-- `ud::vector::divf32x8_dynamic` (R209, R224). -/
def execUdVectorDivF32X8Dynamic (s : State) : Host.Outcome State Fault Refusal := .next (dynamicKernel .ud .div .f32 8 s)

/-- `ud::vector::sqrtf32x8_dynamic` (R210, R224). -/
def execUdVectorSqrtF32X8Dynamic (s : State) : Host.Outcome State Fault Refusal := .next (dynamicKernel .ud .sqrt .f32 8 s)

/-- `ud::vector::fmaf32x8_dynamic` (R211, R224). -/
def execUdVectorFmaF32X8Dynamic (s : State) : Host.Outcome State Fault Refusal := .next (dynamicKernel .ud .fma .f32 8 s)

/-- `ud::vector::addf32x16_dynamic` (R206, R224). -/
def execUdVectorAddF32X16Dynamic (s : State) : Host.Outcome State Fault Refusal := .next (dynamicKernel .ud .add .f32 16 s)

/-- `ud::vector::subf32x16_dynamic` (R207, R224). -/
def execUdVectorSubF32X16Dynamic (s : State) : Host.Outcome State Fault Refusal := .next (dynamicKernel .ud .sub .f32 16 s)

/-- `ud::vector::mulf32x16_dynamic` (R208, R224). -/
def execUdVectorMulF32X16Dynamic (s : State) : Host.Outcome State Fault Refusal := .next (dynamicKernel .ud .mul .f32 16 s)

/-- `ud::vector::divf32x16_dynamic` (R209, R224). -/
def execUdVectorDivF32X16Dynamic (s : State) : Host.Outcome State Fault Refusal := .next (dynamicKernel .ud .div .f32 16 s)

/-- `ud::vector::sqrtf32x16_dynamic` (R210, R224). -/
def execUdVectorSqrtF32X16Dynamic (s : State) : Host.Outcome State Fault Refusal := .next (dynamicKernel .ud .sqrt .f32 16 s)

/-- `ud::vector::fmaf32x16_dynamic` (R211, R224). -/
def execUdVectorFmaF32X16Dynamic (s : State) : Host.Outcome State Fault Refusal := .next (dynamicKernel .ud .fma .f32 16 s)

/-- `ud::vector::addf64x2_dynamic` (R206, R224). -/
def execUdVectorAddF64X2Dynamic (s : State) : Host.Outcome State Fault Refusal := .next (dynamicKernel .ud .add .f64 2 s)

/-- `ud::vector::subf64x2_dynamic` (R207, R224). -/
def execUdVectorSubF64X2Dynamic (s : State) : Host.Outcome State Fault Refusal := .next (dynamicKernel .ud .sub .f64 2 s)

/-- `ud::vector::mulf64x2_dynamic` (R208, R224). -/
def execUdVectorMulF64X2Dynamic (s : State) : Host.Outcome State Fault Refusal := .next (dynamicKernel .ud .mul .f64 2 s)

/-- `ud::vector::divf64x2_dynamic` (R209, R224). -/
def execUdVectorDivF64X2Dynamic (s : State) : Host.Outcome State Fault Refusal := .next (dynamicKernel .ud .div .f64 2 s)

/-- `ud::vector::sqrtf64x2_dynamic` (R210, R224). -/
def execUdVectorSqrtF64X2Dynamic (s : State) : Host.Outcome State Fault Refusal := .next (dynamicKernel .ud .sqrt .f64 2 s)

/-- `ud::vector::fmaf64x2_dynamic` (R211, R224). -/
def execUdVectorFmaF64X2Dynamic (s : State) : Host.Outcome State Fault Refusal := .next (dynamicKernel .ud .fma .f64 2 s)

/-- `ud::vector::addf64x4_dynamic` (R206, R224). -/
def execUdVectorAddF64X4Dynamic (s : State) : Host.Outcome State Fault Refusal := .next (dynamicKernel .ud .add .f64 4 s)

/-- `ud::vector::subf64x4_dynamic` (R207, R224). -/
def execUdVectorSubF64X4Dynamic (s : State) : Host.Outcome State Fault Refusal := .next (dynamicKernel .ud .sub .f64 4 s)

/-- `ud::vector::mulf64x4_dynamic` (R208, R224). -/
def execUdVectorMulF64X4Dynamic (s : State) : Host.Outcome State Fault Refusal := .next (dynamicKernel .ud .mul .f64 4 s)

/-- `ud::vector::divf64x4_dynamic` (R209, R224). -/
def execUdVectorDivF64X4Dynamic (s : State) : Host.Outcome State Fault Refusal := .next (dynamicKernel .ud .div .f64 4 s)

/-- `ud::vector::sqrtf64x4_dynamic` (R210, R224). -/
def execUdVectorSqrtF64X4Dynamic (s : State) : Host.Outcome State Fault Refusal := .next (dynamicKernel .ud .sqrt .f64 4 s)

/-- `ud::vector::fmaf64x4_dynamic` (R211, R224). -/
def execUdVectorFmaF64X4Dynamic (s : State) : Host.Outcome State Fault Refusal := .next (dynamicKernel .ud .fma .f64 4 s)

/-- `ud::vector::addf64x8_dynamic` (R206, R224). -/
def execUdVectorAddF64X8Dynamic (s : State) : Host.Outcome State Fault Refusal := .next (dynamicKernel .ud .add .f64 8 s)

/-- `ud::vector::subf64x8_dynamic` (R207, R224). -/
def execUdVectorSubF64X8Dynamic (s : State) : Host.Outcome State Fault Refusal := .next (dynamicKernel .ud .sub .f64 8 s)

/-- `ud::vector::mulf64x8_dynamic` (R208, R224). -/
def execUdVectorMulF64X8Dynamic (s : State) : Host.Outcome State Fault Refusal := .next (dynamicKernel .ud .mul .f64 8 s)

/-- `ud::vector::divf64x8_dynamic` (R209, R224). -/
def execUdVectorDivF64X8Dynamic (s : State) : Host.Outcome State Fault Refusal := .next (dynamicKernel .ud .div .f64 8 s)

/-- `ud::vector::sqrtf64x8_dynamic` (R210, R224). -/
def execUdVectorSqrtF64X8Dynamic (s : State) : Host.Outcome State Fault Refusal := .next (dynamicKernel .ud .sqrt .f64 8 s)

/-- `ud::vector::fmaf64x8_dynamic` (R211, R224). -/
def execUdVectorFmaF64X8Dynamic (s : State) : Host.Outcome State Fault Refusal := .next (dynamicKernel .ud .fma .f64 8 s)

/-- `ud::vector::addf64x16_dynamic` (R206, R224). -/
def execUdVectorAddF64X16Dynamic (s : State) : Host.Outcome State Fault Refusal := .next (dynamicKernel .ud .add .f64 16 s)

/-- `ud::vector::subf64x16_dynamic` (R207, R224). -/
def execUdVectorSubF64X16Dynamic (s : State) : Host.Outcome State Fault Refusal := .next (dynamicKernel .ud .sub .f64 16 s)

/-- `ud::vector::mulf64x16_dynamic` (R208, R224). -/
def execUdVectorMulF64X16Dynamic (s : State) : Host.Outcome State Fault Refusal := .next (dynamicKernel .ud .mul .f64 16 s)

/-- `ud::vector::divf64x16_dynamic` (R209, R224). -/
def execUdVectorDivF64X16Dynamic (s : State) : Host.Outcome State Fault Refusal := .next (dynamicKernel .ud .div .f64 16 s)

/-- `ud::vector::sqrtf64x16_dynamic` (R210, R224). -/
def execUdVectorSqrtF64X16Dynamic (s : State) : Host.Outcome State Fault Refusal := .next (dynamicKernel .ud .sqrt .f64 16 s)

/-- `ud::vector::fmaf64x16_dynamic` (R211, R224). -/
def execUdVectorFmaF64X16Dynamic (s : State) : Host.Outcome State Fault Refusal := .next (dynamicKernel .ud .fma .f64 16 s)

end Sys2Proof.Machine
end

