-- ==== Sys2Proof/Machine/VectorStatic.lean ====
section
/-! DEFINITION. The 96 static vector kernel commands (spec/30_encoding.md R84; shape R223). -/

namespace Sys2Proof.Machine

/-- `sr::vector::addf32x2_static` (R192, R223). -/
def execSrVectorAddF32X2Static (s : State) : Host.Outcome State Fault Refusal := .next (staticKernel .sr .add .f32 2 s)

/-- `sr::vector::subf32x2_static` (R193, R223). -/
def execSrVectorSubF32X2Static (s : State) : Host.Outcome State Fault Refusal := .next (staticKernel .sr .sub .f32 2 s)

/-- `sr::vector::mulf32x2_static` (R194, R223). -/
def execSrVectorMulF32X2Static (s : State) : Host.Outcome State Fault Refusal := .next (staticKernel .sr .mul .f32 2 s)

/-- `sr::vector::divf32x2_static` (R195, R223). -/
def execSrVectorDivF32X2Static (s : State) : Host.Outcome State Fault Refusal := .next (staticKernel .sr .div .f32 2 s)

/-- `sr::vector::sqrtf32x2_static` (R196, R223). -/
def execSrVectorSqrtF32X2Static (s : State) : Host.Outcome State Fault Refusal := .next (staticKernel .sr .sqrt .f32 2 s)

/-- `sr::vector::fmaf32x2_static` (R197, R223). -/
def execSrVectorFmaF32X2Static (s : State) : Host.Outcome State Fault Refusal := .next (staticKernel .sr .fma .f32 2 s)

/-- `sr::vector::addf32x4_static` (R192, R223). -/
def execSrVectorAddF32X4Static (s : State) : Host.Outcome State Fault Refusal := .next (staticKernel .sr .add .f32 4 s)

/-- `sr::vector::subf32x4_static` (R193, R223). -/
def execSrVectorSubF32X4Static (s : State) : Host.Outcome State Fault Refusal := .next (staticKernel .sr .sub .f32 4 s)

/-- `sr::vector::mulf32x4_static` (R194, R223). -/
def execSrVectorMulF32X4Static (s : State) : Host.Outcome State Fault Refusal := .next (staticKernel .sr .mul .f32 4 s)

/-- `sr::vector::divf32x4_static` (R195, R223). -/
def execSrVectorDivF32X4Static (s : State) : Host.Outcome State Fault Refusal := .next (staticKernel .sr .div .f32 4 s)

/-- `sr::vector::sqrtf32x4_static` (R196, R223). -/
def execSrVectorSqrtF32X4Static (s : State) : Host.Outcome State Fault Refusal := .next (staticKernel .sr .sqrt .f32 4 s)

/-- `sr::vector::fmaf32x4_static` (R197, R223). -/
def execSrVectorFmaF32X4Static (s : State) : Host.Outcome State Fault Refusal := .next (staticKernel .sr .fma .f32 4 s)

/-- `sr::vector::addf32x8_static` (R192, R223). -/
def execSrVectorAddF32X8Static (s : State) : Host.Outcome State Fault Refusal := .next (staticKernel .sr .add .f32 8 s)

/-- `sr::vector::subf32x8_static` (R193, R223). -/
def execSrVectorSubF32X8Static (s : State) : Host.Outcome State Fault Refusal := .next (staticKernel .sr .sub .f32 8 s)

/-- `sr::vector::mulf32x8_static` (R194, R223). -/
def execSrVectorMulF32X8Static (s : State) : Host.Outcome State Fault Refusal := .next (staticKernel .sr .mul .f32 8 s)

/-- `sr::vector::divf32x8_static` (R195, R223). -/
def execSrVectorDivF32X8Static (s : State) : Host.Outcome State Fault Refusal := .next (staticKernel .sr .div .f32 8 s)

/-- `sr::vector::sqrtf32x8_static` (R196, R223). -/
def execSrVectorSqrtF32X8Static (s : State) : Host.Outcome State Fault Refusal := .next (staticKernel .sr .sqrt .f32 8 s)

/-- `sr::vector::fmaf32x8_static` (R197, R223). -/
def execSrVectorFmaF32X8Static (s : State) : Host.Outcome State Fault Refusal := .next (staticKernel .sr .fma .f32 8 s)

/-- `sr::vector::addf32x16_static` (R192, R223). -/
def execSrVectorAddF32X16Static (s : State) : Host.Outcome State Fault Refusal := .next (staticKernel .sr .add .f32 16 s)

/-- `sr::vector::subf32x16_static` (R193, R223). -/
def execSrVectorSubF32X16Static (s : State) : Host.Outcome State Fault Refusal := .next (staticKernel .sr .sub .f32 16 s)

/-- `sr::vector::mulf32x16_static` (R194, R223). -/
def execSrVectorMulF32X16Static (s : State) : Host.Outcome State Fault Refusal := .next (staticKernel .sr .mul .f32 16 s)

/-- `sr::vector::divf32x16_static` (R195, R223). -/
def execSrVectorDivF32X16Static (s : State) : Host.Outcome State Fault Refusal := .next (staticKernel .sr .div .f32 16 s)

/-- `sr::vector::sqrtf32x16_static` (R196, R223). -/
def execSrVectorSqrtF32X16Static (s : State) : Host.Outcome State Fault Refusal := .next (staticKernel .sr .sqrt .f32 16 s)

/-- `sr::vector::fmaf32x16_static` (R197, R223). -/
def execSrVectorFmaF32X16Static (s : State) : Host.Outcome State Fault Refusal := .next (staticKernel .sr .fma .f32 16 s)

/-- `sr::vector::addf64x2_static` (R192, R223). -/
def execSrVectorAddF64X2Static (s : State) : Host.Outcome State Fault Refusal := .next (staticKernel .sr .add .f64 2 s)

/-- `sr::vector::subf64x2_static` (R193, R223). -/
def execSrVectorSubF64X2Static (s : State) : Host.Outcome State Fault Refusal := .next (staticKernel .sr .sub .f64 2 s)

/-- `sr::vector::mulf64x2_static` (R194, R223). -/
def execSrVectorMulF64X2Static (s : State) : Host.Outcome State Fault Refusal := .next (staticKernel .sr .mul .f64 2 s)

/-- `sr::vector::divf64x2_static` (R195, R223). -/
def execSrVectorDivF64X2Static (s : State) : Host.Outcome State Fault Refusal := .next (staticKernel .sr .div .f64 2 s)

/-- `sr::vector::sqrtf64x2_static` (R196, R223). -/
def execSrVectorSqrtF64X2Static (s : State) : Host.Outcome State Fault Refusal := .next (staticKernel .sr .sqrt .f64 2 s)

/-- `sr::vector::fmaf64x2_static` (R197, R223). -/
def execSrVectorFmaF64X2Static (s : State) : Host.Outcome State Fault Refusal := .next (staticKernel .sr .fma .f64 2 s)

/-- `sr::vector::addf64x4_static` (R192, R223). -/
def execSrVectorAddF64X4Static (s : State) : Host.Outcome State Fault Refusal := .next (staticKernel .sr .add .f64 4 s)

/-- `sr::vector::subf64x4_static` (R193, R223). -/
def execSrVectorSubF64X4Static (s : State) : Host.Outcome State Fault Refusal := .next (staticKernel .sr .sub .f64 4 s)

/-- `sr::vector::mulf64x4_static` (R194, R223). -/
def execSrVectorMulF64X4Static (s : State) : Host.Outcome State Fault Refusal := .next (staticKernel .sr .mul .f64 4 s)

/-- `sr::vector::divf64x4_static` (R195, R223). -/
def execSrVectorDivF64X4Static (s : State) : Host.Outcome State Fault Refusal := .next (staticKernel .sr .div .f64 4 s)

/-- `sr::vector::sqrtf64x4_static` (R196, R223). -/
def execSrVectorSqrtF64X4Static (s : State) : Host.Outcome State Fault Refusal := .next (staticKernel .sr .sqrt .f64 4 s)

/-- `sr::vector::fmaf64x4_static` (R197, R223). -/
def execSrVectorFmaF64X4Static (s : State) : Host.Outcome State Fault Refusal := .next (staticKernel .sr .fma .f64 4 s)

/-- `sr::vector::addf64x8_static` (R192, R223). -/
def execSrVectorAddF64X8Static (s : State) : Host.Outcome State Fault Refusal := .next (staticKernel .sr .add .f64 8 s)

/-- `sr::vector::subf64x8_static` (R193, R223). -/
def execSrVectorSubF64X8Static (s : State) : Host.Outcome State Fault Refusal := .next (staticKernel .sr .sub .f64 8 s)

/-- `sr::vector::mulf64x8_static` (R194, R223). -/
def execSrVectorMulF64X8Static (s : State) : Host.Outcome State Fault Refusal := .next (staticKernel .sr .mul .f64 8 s)

/-- `sr::vector::divf64x8_static` (R195, R223). -/
def execSrVectorDivF64X8Static (s : State) : Host.Outcome State Fault Refusal := .next (staticKernel .sr .div .f64 8 s)

/-- `sr::vector::sqrtf64x8_static` (R196, R223). -/
def execSrVectorSqrtF64X8Static (s : State) : Host.Outcome State Fault Refusal := .next (staticKernel .sr .sqrt .f64 8 s)

/-- `sr::vector::fmaf64x8_static` (R197, R223). -/
def execSrVectorFmaF64X8Static (s : State) : Host.Outcome State Fault Refusal := .next (staticKernel .sr .fma .f64 8 s)

/-- `sr::vector::addf64x16_static` (R192, R223). -/
def execSrVectorAddF64X16Static (s : State) : Host.Outcome State Fault Refusal := .next (staticKernel .sr .add .f64 16 s)

/-- `sr::vector::subf64x16_static` (R193, R223). -/
def execSrVectorSubF64X16Static (s : State) : Host.Outcome State Fault Refusal := .next (staticKernel .sr .sub .f64 16 s)

/-- `sr::vector::mulf64x16_static` (R194, R223). -/
def execSrVectorMulF64X16Static (s : State) : Host.Outcome State Fault Refusal := .next (staticKernel .sr .mul .f64 16 s)

/-- `sr::vector::divf64x16_static` (R195, R223). -/
def execSrVectorDivF64X16Static (s : State) : Host.Outcome State Fault Refusal := .next (staticKernel .sr .div .f64 16 s)

/-- `sr::vector::sqrtf64x16_static` (R196, R223). -/
def execSrVectorSqrtF64X16Static (s : State) : Host.Outcome State Fault Refusal := .next (staticKernel .sr .sqrt .f64 16 s)

/-- `sr::vector::fmaf64x16_static` (R197, R223). -/
def execSrVectorFmaF64X16Static (s : State) : Host.Outcome State Fault Refusal := .next (staticKernel .sr .fma .f64 16 s)

/-- `ud::vector::addf32x2_static` (R206, R223). -/
def execUdVectorAddF32X2Static (s : State) : Host.Outcome State Fault Refusal := .next (staticKernel .ud .add .f32 2 s)

/-- `ud::vector::subf32x2_static` (R207, R223). -/
def execUdVectorSubF32X2Static (s : State) : Host.Outcome State Fault Refusal := .next (staticKernel .ud .sub .f32 2 s)

/-- `ud::vector::mulf32x2_static` (R208, R223). -/
def execUdVectorMulF32X2Static (s : State) : Host.Outcome State Fault Refusal := .next (staticKernel .ud .mul .f32 2 s)

/-- `ud::vector::divf32x2_static` (R209, R223). -/
def execUdVectorDivF32X2Static (s : State) : Host.Outcome State Fault Refusal := .next (staticKernel .ud .div .f32 2 s)

/-- `ud::vector::sqrtf32x2_static` (R210, R223). -/
def execUdVectorSqrtF32X2Static (s : State) : Host.Outcome State Fault Refusal := .next (staticKernel .ud .sqrt .f32 2 s)

/-- `ud::vector::fmaf32x2_static` (R211, R223). -/
def execUdVectorFmaF32X2Static (s : State) : Host.Outcome State Fault Refusal := .next (staticKernel .ud .fma .f32 2 s)

/-- `ud::vector::addf32x4_static` (R206, R223). -/
def execUdVectorAddF32X4Static (s : State) : Host.Outcome State Fault Refusal := .next (staticKernel .ud .add .f32 4 s)

/-- `ud::vector::subf32x4_static` (R207, R223). -/
def execUdVectorSubF32X4Static (s : State) : Host.Outcome State Fault Refusal := .next (staticKernel .ud .sub .f32 4 s)

/-- `ud::vector::mulf32x4_static` (R208, R223). -/
def execUdVectorMulF32X4Static (s : State) : Host.Outcome State Fault Refusal := .next (staticKernel .ud .mul .f32 4 s)

/-- `ud::vector::divf32x4_static` (R209, R223). -/
def execUdVectorDivF32X4Static (s : State) : Host.Outcome State Fault Refusal := .next (staticKernel .ud .div .f32 4 s)

/-- `ud::vector::sqrtf32x4_static` (R210, R223). -/
def execUdVectorSqrtF32X4Static (s : State) : Host.Outcome State Fault Refusal := .next (staticKernel .ud .sqrt .f32 4 s)

/-- `ud::vector::fmaf32x4_static` (R211, R223). -/
def execUdVectorFmaF32X4Static (s : State) : Host.Outcome State Fault Refusal := .next (staticKernel .ud .fma .f32 4 s)

/-- `ud::vector::addf32x8_static` (R206, R223). -/
def execUdVectorAddF32X8Static (s : State) : Host.Outcome State Fault Refusal := .next (staticKernel .ud .add .f32 8 s)

/-- `ud::vector::subf32x8_static` (R207, R223). -/
def execUdVectorSubF32X8Static (s : State) : Host.Outcome State Fault Refusal := .next (staticKernel .ud .sub .f32 8 s)

/-- `ud::vector::mulf32x8_static` (R208, R223). -/
def execUdVectorMulF32X8Static (s : State) : Host.Outcome State Fault Refusal := .next (staticKernel .ud .mul .f32 8 s)

/-- `ud::vector::divf32x8_static` (R209, R223). -/
def execUdVectorDivF32X8Static (s : State) : Host.Outcome State Fault Refusal := .next (staticKernel .ud .div .f32 8 s)

/-- `ud::vector::sqrtf32x8_static` (R210, R223). -/
def execUdVectorSqrtF32X8Static (s : State) : Host.Outcome State Fault Refusal := .next (staticKernel .ud .sqrt .f32 8 s)

/-- `ud::vector::fmaf32x8_static` (R211, R223). -/
def execUdVectorFmaF32X8Static (s : State) : Host.Outcome State Fault Refusal := .next (staticKernel .ud .fma .f32 8 s)

/-- `ud::vector::addf32x16_static` (R206, R223). -/
def execUdVectorAddF32X16Static (s : State) : Host.Outcome State Fault Refusal := .next (staticKernel .ud .add .f32 16 s)

/-- `ud::vector::subf32x16_static` (R207, R223). -/
def execUdVectorSubF32X16Static (s : State) : Host.Outcome State Fault Refusal := .next (staticKernel .ud .sub .f32 16 s)

/-- `ud::vector::mulf32x16_static` (R208, R223). -/
def execUdVectorMulF32X16Static (s : State) : Host.Outcome State Fault Refusal := .next (staticKernel .ud .mul .f32 16 s)

/-- `ud::vector::divf32x16_static` (R209, R223). -/
def execUdVectorDivF32X16Static (s : State) : Host.Outcome State Fault Refusal := .next (staticKernel .ud .div .f32 16 s)

/-- `ud::vector::sqrtf32x16_static` (R210, R223). -/
def execUdVectorSqrtF32X16Static (s : State) : Host.Outcome State Fault Refusal := .next (staticKernel .ud .sqrt .f32 16 s)

/-- `ud::vector::fmaf32x16_static` (R211, R223). -/
def execUdVectorFmaF32X16Static (s : State) : Host.Outcome State Fault Refusal := .next (staticKernel .ud .fma .f32 16 s)

/-- `ud::vector::addf64x2_static` (R206, R223). -/
def execUdVectorAddF64X2Static (s : State) : Host.Outcome State Fault Refusal := .next (staticKernel .ud .add .f64 2 s)

/-- `ud::vector::subf64x2_static` (R207, R223). -/
def execUdVectorSubF64X2Static (s : State) : Host.Outcome State Fault Refusal := .next (staticKernel .ud .sub .f64 2 s)

/-- `ud::vector::mulf64x2_static` (R208, R223). -/
def execUdVectorMulF64X2Static (s : State) : Host.Outcome State Fault Refusal := .next (staticKernel .ud .mul .f64 2 s)

/-- `ud::vector::divf64x2_static` (R209, R223). -/
def execUdVectorDivF64X2Static (s : State) : Host.Outcome State Fault Refusal := .next (staticKernel .ud .div .f64 2 s)

/-- `ud::vector::sqrtf64x2_static` (R210, R223). -/
def execUdVectorSqrtF64X2Static (s : State) : Host.Outcome State Fault Refusal := .next (staticKernel .ud .sqrt .f64 2 s)

/-- `ud::vector::fmaf64x2_static` (R211, R223). -/
def execUdVectorFmaF64X2Static (s : State) : Host.Outcome State Fault Refusal := .next (staticKernel .ud .fma .f64 2 s)

/-- `ud::vector::addf64x4_static` (R206, R223). -/
def execUdVectorAddF64X4Static (s : State) : Host.Outcome State Fault Refusal := .next (staticKernel .ud .add .f64 4 s)

/-- `ud::vector::subf64x4_static` (R207, R223). -/
def execUdVectorSubF64X4Static (s : State) : Host.Outcome State Fault Refusal := .next (staticKernel .ud .sub .f64 4 s)

/-- `ud::vector::mulf64x4_static` (R208, R223). -/
def execUdVectorMulF64X4Static (s : State) : Host.Outcome State Fault Refusal := .next (staticKernel .ud .mul .f64 4 s)

/-- `ud::vector::divf64x4_static` (R209, R223). -/
def execUdVectorDivF64X4Static (s : State) : Host.Outcome State Fault Refusal := .next (staticKernel .ud .div .f64 4 s)

/-- `ud::vector::sqrtf64x4_static` (R210, R223). -/
def execUdVectorSqrtF64X4Static (s : State) : Host.Outcome State Fault Refusal := .next (staticKernel .ud .sqrt .f64 4 s)

/-- `ud::vector::fmaf64x4_static` (R211, R223). -/
def execUdVectorFmaF64X4Static (s : State) : Host.Outcome State Fault Refusal := .next (staticKernel .ud .fma .f64 4 s)

/-- `ud::vector::addf64x8_static` (R206, R223). -/
def execUdVectorAddF64X8Static (s : State) : Host.Outcome State Fault Refusal := .next (staticKernel .ud .add .f64 8 s)

/-- `ud::vector::subf64x8_static` (R207, R223). -/
def execUdVectorSubF64X8Static (s : State) : Host.Outcome State Fault Refusal := .next (staticKernel .ud .sub .f64 8 s)

/-- `ud::vector::mulf64x8_static` (R208, R223). -/
def execUdVectorMulF64X8Static (s : State) : Host.Outcome State Fault Refusal := .next (staticKernel .ud .mul .f64 8 s)

/-- `ud::vector::divf64x8_static` (R209, R223). -/
def execUdVectorDivF64X8Static (s : State) : Host.Outcome State Fault Refusal := .next (staticKernel .ud .div .f64 8 s)

/-- `ud::vector::sqrtf64x8_static` (R210, R223). -/
def execUdVectorSqrtF64X8Static (s : State) : Host.Outcome State Fault Refusal := .next (staticKernel .ud .sqrt .f64 8 s)

/-- `ud::vector::fmaf64x8_static` (R211, R223). -/
def execUdVectorFmaF64X8Static (s : State) : Host.Outcome State Fault Refusal := .next (staticKernel .ud .fma .f64 8 s)

/-- `ud::vector::addf64x16_static` (R206, R223). -/
def execUdVectorAddF64X16Static (s : State) : Host.Outcome State Fault Refusal := .next (staticKernel .ud .add .f64 16 s)

/-- `ud::vector::subf64x16_static` (R207, R223). -/
def execUdVectorSubF64X16Static (s : State) : Host.Outcome State Fault Refusal := .next (staticKernel .ud .sub .f64 16 s)

/-- `ud::vector::mulf64x16_static` (R208, R223). -/
def execUdVectorMulF64X16Static (s : State) : Host.Outcome State Fault Refusal := .next (staticKernel .ud .mul .f64 16 s)

/-- `ud::vector::divf64x16_static` (R209, R223). -/
def execUdVectorDivF64X16Static (s : State) : Host.Outcome State Fault Refusal := .next (staticKernel .ud .div .f64 16 s)

/-- `ud::vector::sqrtf64x16_static` (R210, R223). -/
def execUdVectorSqrtF64X16Static (s : State) : Host.Outcome State Fault Refusal := .next (staticKernel .ud .sqrt .f64 16 s)

/-- `ud::vector::fmaf64x16_static` (R211, R223). -/
def execUdVectorFmaF64X16Static (s : State) : Host.Outcome State Fault Refusal := .next (staticKernel .ud .fma .f64 16 s)

end Sys2Proof.Machine
end

