-- ==== Sys2Proof/Machine/Dispatch.lean ====
section
/-! DEFINITION. One arm for each command: its meaning (spec/30_encoding.md R84 to R88). -/

namespace Sys2Proof.Machine

/-- The effect of a decoded command on the state: steps 2 to 5 of R234. -/
def exec (i : Instr) (s : State) : Host.Outcome State Fault Refusal :=
  match i with
  | .srScalarAddF32 => Sys2Proof.Machine.execSrScalarAddF32 s
  | .srScalarSubF32 => Sys2Proof.Machine.execSrScalarSubF32 s
  | .srScalarMulF32 => Sys2Proof.Machine.execSrScalarMulF32 s
  | .srScalarDivF32 => Sys2Proof.Machine.execSrScalarDivF32 s
  | .srScalarSqrtF32 => Sys2Proof.Machine.execSrScalarSqrtF32 s
  | .srScalarFmaF32 => Sys2Proof.Machine.execSrScalarFmaF32 s
  | .srScalarAddF64 => Sys2Proof.Machine.execSrScalarAddF64 s
  | .srScalarSubF64 => Sys2Proof.Machine.execSrScalarSubF64 s
  | .srScalarMulF64 => Sys2Proof.Machine.execSrScalarMulF64 s
  | .srScalarDivF64 => Sys2Proof.Machine.execSrScalarDivF64 s
  | .srScalarSqrtF64 => Sys2Proof.Machine.execSrScalarSqrtF64 s
  | .srScalarFmaF64 => Sys2Proof.Machine.execSrScalarFmaF64 s
  | .srVectorAddF32X2Static => Sys2Proof.Machine.execSrVectorAddF32X2Static s
  | .srVectorSubF32X2Static => Sys2Proof.Machine.execSrVectorSubF32X2Static s
  | .srVectorMulF32X2Static => Sys2Proof.Machine.execSrVectorMulF32X2Static s
  | .srVectorDivF32X2Static => Sys2Proof.Machine.execSrVectorDivF32X2Static s
  | .srVectorSqrtF32X2Static => Sys2Proof.Machine.execSrVectorSqrtF32X2Static s
  | .srVectorFmaF32X2Static => Sys2Proof.Machine.execSrVectorFmaF32X2Static s
  | .srVectorAddF32X4Static => Sys2Proof.Machine.execSrVectorAddF32X4Static s
  | .srVectorSubF32X4Static => Sys2Proof.Machine.execSrVectorSubF32X4Static s
  | .srVectorMulF32X4Static => Sys2Proof.Machine.execSrVectorMulF32X4Static s
  | .srVectorDivF32X4Static => Sys2Proof.Machine.execSrVectorDivF32X4Static s
  | .srVectorSqrtF32X4Static => Sys2Proof.Machine.execSrVectorSqrtF32X4Static s
  | .srVectorFmaF32X4Static => Sys2Proof.Machine.execSrVectorFmaF32X4Static s
  | .srVectorAddF32X8Static => Sys2Proof.Machine.execSrVectorAddF32X8Static s
  | .srVectorSubF32X8Static => Sys2Proof.Machine.execSrVectorSubF32X8Static s
  | .srVectorMulF32X8Static => Sys2Proof.Machine.execSrVectorMulF32X8Static s
  | .srVectorDivF32X8Static => Sys2Proof.Machine.execSrVectorDivF32X8Static s
  | .srVectorSqrtF32X8Static => Sys2Proof.Machine.execSrVectorSqrtF32X8Static s
  | .srVectorFmaF32X8Static => Sys2Proof.Machine.execSrVectorFmaF32X8Static s
  | .srVectorAddF32X16Static => Sys2Proof.Machine.execSrVectorAddF32X16Static s
  | .srVectorSubF32X16Static => Sys2Proof.Machine.execSrVectorSubF32X16Static s
  | .srVectorMulF32X16Static => Sys2Proof.Machine.execSrVectorMulF32X16Static s
  | .srVectorDivF32X16Static => Sys2Proof.Machine.execSrVectorDivF32X16Static s
  | .srVectorSqrtF32X16Static => Sys2Proof.Machine.execSrVectorSqrtF32X16Static s
  | .srVectorFmaF32X16Static => Sys2Proof.Machine.execSrVectorFmaF32X16Static s
  | .srVectorAddF64X2Static => Sys2Proof.Machine.execSrVectorAddF64X2Static s
  | .srVectorSubF64X2Static => Sys2Proof.Machine.execSrVectorSubF64X2Static s
  | .srVectorMulF64X2Static => Sys2Proof.Machine.execSrVectorMulF64X2Static s
  | .srVectorDivF64X2Static => Sys2Proof.Machine.execSrVectorDivF64X2Static s
  | .srVectorSqrtF64X2Static => Sys2Proof.Machine.execSrVectorSqrtF64X2Static s
  | .srVectorFmaF64X2Static => Sys2Proof.Machine.execSrVectorFmaF64X2Static s
  | .srVectorAddF64X4Static => Sys2Proof.Machine.execSrVectorAddF64X4Static s
  | .srVectorSubF64X4Static => Sys2Proof.Machine.execSrVectorSubF64X4Static s
  | .srVectorMulF64X4Static => Sys2Proof.Machine.execSrVectorMulF64X4Static s
  | .srVectorDivF64X4Static => Sys2Proof.Machine.execSrVectorDivF64X4Static s
  | .srVectorSqrtF64X4Static => Sys2Proof.Machine.execSrVectorSqrtF64X4Static s
  | .srVectorFmaF64X4Static => Sys2Proof.Machine.execSrVectorFmaF64X4Static s
  | .srVectorAddF64X8Static => Sys2Proof.Machine.execSrVectorAddF64X8Static s
  | .srVectorSubF64X8Static => Sys2Proof.Machine.execSrVectorSubF64X8Static s
  | .srVectorMulF64X8Static => Sys2Proof.Machine.execSrVectorMulF64X8Static s
  | .srVectorDivF64X8Static => Sys2Proof.Machine.execSrVectorDivF64X8Static s
  | .srVectorSqrtF64X8Static => Sys2Proof.Machine.execSrVectorSqrtF64X8Static s
  | .srVectorFmaF64X8Static => Sys2Proof.Machine.execSrVectorFmaF64X8Static s
  | .srVectorAddF64X16Static => Sys2Proof.Machine.execSrVectorAddF64X16Static s
  | .srVectorSubF64X16Static => Sys2Proof.Machine.execSrVectorSubF64X16Static s
  | .srVectorMulF64X16Static => Sys2Proof.Machine.execSrVectorMulF64X16Static s
  | .srVectorDivF64X16Static => Sys2Proof.Machine.execSrVectorDivF64X16Static s
  | .srVectorSqrtF64X16Static => Sys2Proof.Machine.execSrVectorSqrtF64X16Static s
  | .srVectorFmaF64X16Static => Sys2Proof.Machine.execSrVectorFmaF64X16Static s
  | .srVectorAddF32X2Dynamic => Sys2Proof.Machine.execSrVectorAddF32X2Dynamic s
  | .srVectorSubF32X2Dynamic => Sys2Proof.Machine.execSrVectorSubF32X2Dynamic s
  | .srVectorMulF32X2Dynamic => Sys2Proof.Machine.execSrVectorMulF32X2Dynamic s
  | .srVectorDivF32X2Dynamic => Sys2Proof.Machine.execSrVectorDivF32X2Dynamic s
  | .srVectorSqrtF32X2Dynamic => Sys2Proof.Machine.execSrVectorSqrtF32X2Dynamic s
  | .srVectorFmaF32X2Dynamic => Sys2Proof.Machine.execSrVectorFmaF32X2Dynamic s
  | .srVectorAddF32X4Dynamic => Sys2Proof.Machine.execSrVectorAddF32X4Dynamic s
  | .srVectorSubF32X4Dynamic => Sys2Proof.Machine.execSrVectorSubF32X4Dynamic s
  | .srVectorMulF32X4Dynamic => Sys2Proof.Machine.execSrVectorMulF32X4Dynamic s
  | .srVectorDivF32X4Dynamic => Sys2Proof.Machine.execSrVectorDivF32X4Dynamic s
  | .srVectorSqrtF32X4Dynamic => Sys2Proof.Machine.execSrVectorSqrtF32X4Dynamic s
  | .srVectorFmaF32X4Dynamic => Sys2Proof.Machine.execSrVectorFmaF32X4Dynamic s
  | .srVectorAddF32X8Dynamic => Sys2Proof.Machine.execSrVectorAddF32X8Dynamic s
  | .srVectorSubF32X8Dynamic => Sys2Proof.Machine.execSrVectorSubF32X8Dynamic s
  | .srVectorMulF32X8Dynamic => Sys2Proof.Machine.execSrVectorMulF32X8Dynamic s
  | .srVectorDivF32X8Dynamic => Sys2Proof.Machine.execSrVectorDivF32X8Dynamic s
  | .srVectorSqrtF32X8Dynamic => Sys2Proof.Machine.execSrVectorSqrtF32X8Dynamic s
  | .srVectorFmaF32X8Dynamic => Sys2Proof.Machine.execSrVectorFmaF32X8Dynamic s
  | .srVectorAddF32X16Dynamic => Sys2Proof.Machine.execSrVectorAddF32X16Dynamic s
  | .srVectorSubF32X16Dynamic => Sys2Proof.Machine.execSrVectorSubF32X16Dynamic s
  | .srVectorMulF32X16Dynamic => Sys2Proof.Machine.execSrVectorMulF32X16Dynamic s
  | .srVectorDivF32X16Dynamic => Sys2Proof.Machine.execSrVectorDivF32X16Dynamic s
  | .srVectorSqrtF32X16Dynamic => Sys2Proof.Machine.execSrVectorSqrtF32X16Dynamic s
  | .srVectorFmaF32X16Dynamic => Sys2Proof.Machine.execSrVectorFmaF32X16Dynamic s
  | .srVectorAddF64X2Dynamic => Sys2Proof.Machine.execSrVectorAddF64X2Dynamic s
  | .srVectorSubF64X2Dynamic => Sys2Proof.Machine.execSrVectorSubF64X2Dynamic s
  | .srVectorMulF64X2Dynamic => Sys2Proof.Machine.execSrVectorMulF64X2Dynamic s
  | .srVectorDivF64X2Dynamic => Sys2Proof.Machine.execSrVectorDivF64X2Dynamic s
  | .srVectorSqrtF64X2Dynamic => Sys2Proof.Machine.execSrVectorSqrtF64X2Dynamic s
  | .srVectorFmaF64X2Dynamic => Sys2Proof.Machine.execSrVectorFmaF64X2Dynamic s
  | .srVectorAddF64X4Dynamic => Sys2Proof.Machine.execSrVectorAddF64X4Dynamic s
  | .srVectorSubF64X4Dynamic => Sys2Proof.Machine.execSrVectorSubF64X4Dynamic s
  | .srVectorMulF64X4Dynamic => Sys2Proof.Machine.execSrVectorMulF64X4Dynamic s
  | .srVectorDivF64X4Dynamic => Sys2Proof.Machine.execSrVectorDivF64X4Dynamic s
  | .srVectorSqrtF64X4Dynamic => Sys2Proof.Machine.execSrVectorSqrtF64X4Dynamic s
  | .srVectorFmaF64X4Dynamic => Sys2Proof.Machine.execSrVectorFmaF64X4Dynamic s
  | .srVectorAddF64X8Dynamic => Sys2Proof.Machine.execSrVectorAddF64X8Dynamic s
  | .srVectorSubF64X8Dynamic => Sys2Proof.Machine.execSrVectorSubF64X8Dynamic s
  | .srVectorMulF64X8Dynamic => Sys2Proof.Machine.execSrVectorMulF64X8Dynamic s
  | .srVectorDivF64X8Dynamic => Sys2Proof.Machine.execSrVectorDivF64X8Dynamic s
  | .srVectorSqrtF64X8Dynamic => Sys2Proof.Machine.execSrVectorSqrtF64X8Dynamic s
  | .srVectorFmaF64X8Dynamic => Sys2Proof.Machine.execSrVectorFmaF64X8Dynamic s
  | .srVectorAddF64X16Dynamic => Sys2Proof.Machine.execSrVectorAddF64X16Dynamic s
  | .srVectorSubF64X16Dynamic => Sys2Proof.Machine.execSrVectorSubF64X16Dynamic s
  | .srVectorMulF64X16Dynamic => Sys2Proof.Machine.execSrVectorMulF64X16Dynamic s
  | .srVectorDivF64X16Dynamic => Sys2Proof.Machine.execSrVectorDivF64X16Dynamic s
  | .srVectorSqrtF64X16Dynamic => Sys2Proof.Machine.execSrVectorSqrtF64X16Dynamic s
  | .srVectorFmaF64X16Dynamic => Sys2Proof.Machine.execSrVectorFmaF64X16Dynamic s
  | .udScalarAddF32 => Sys2Proof.Machine.execUdScalarAddF32 s
  | .udScalarSubF32 => Sys2Proof.Machine.execUdScalarSubF32 s
  | .udScalarMulF32 => Sys2Proof.Machine.execUdScalarMulF32 s
  | .udScalarDivF32 => Sys2Proof.Machine.execUdScalarDivF32 s
  | .udScalarSqrtF32 => Sys2Proof.Machine.execUdScalarSqrtF32 s
  | .udScalarFmaF32 => Sys2Proof.Machine.execUdScalarFmaF32 s
  | .udScalarAddF64 => Sys2Proof.Machine.execUdScalarAddF64 s
  | .udScalarSubF64 => Sys2Proof.Machine.execUdScalarSubF64 s
  | .udScalarMulF64 => Sys2Proof.Machine.execUdScalarMulF64 s
  | .udScalarDivF64 => Sys2Proof.Machine.execUdScalarDivF64 s
  | .udScalarSqrtF64 => Sys2Proof.Machine.execUdScalarSqrtF64 s
  | .udScalarFmaF64 => Sys2Proof.Machine.execUdScalarFmaF64 s
  | .udVectorAddF32X2Static => Sys2Proof.Machine.execUdVectorAddF32X2Static s
  | .udVectorSubF32X2Static => Sys2Proof.Machine.execUdVectorSubF32X2Static s
  | .udVectorMulF32X2Static => Sys2Proof.Machine.execUdVectorMulF32X2Static s
  | .udVectorDivF32X2Static => Sys2Proof.Machine.execUdVectorDivF32X2Static s
  | .udVectorSqrtF32X2Static => Sys2Proof.Machine.execUdVectorSqrtF32X2Static s
  | .udVectorFmaF32X2Static => Sys2Proof.Machine.execUdVectorFmaF32X2Static s
  | .udVectorAddF32X4Static => Sys2Proof.Machine.execUdVectorAddF32X4Static s
  | .udVectorSubF32X4Static => Sys2Proof.Machine.execUdVectorSubF32X4Static s
  | .udVectorMulF32X4Static => Sys2Proof.Machine.execUdVectorMulF32X4Static s
  | .udVectorDivF32X4Static => Sys2Proof.Machine.execUdVectorDivF32X4Static s
  | .udVectorSqrtF32X4Static => Sys2Proof.Machine.execUdVectorSqrtF32X4Static s
  | .udVectorFmaF32X4Static => Sys2Proof.Machine.execUdVectorFmaF32X4Static s
  | .udVectorAddF32X8Static => Sys2Proof.Machine.execUdVectorAddF32X8Static s
  | .udVectorSubF32X8Static => Sys2Proof.Machine.execUdVectorSubF32X8Static s
  | .udVectorMulF32X8Static => Sys2Proof.Machine.execUdVectorMulF32X8Static s
  | .udVectorDivF32X8Static => Sys2Proof.Machine.execUdVectorDivF32X8Static s
  | .udVectorSqrtF32X8Static => Sys2Proof.Machine.execUdVectorSqrtF32X8Static s
  | .udVectorFmaF32X8Static => Sys2Proof.Machine.execUdVectorFmaF32X8Static s
  | .udVectorAddF32X16Static => Sys2Proof.Machine.execUdVectorAddF32X16Static s
  | .udVectorSubF32X16Static => Sys2Proof.Machine.execUdVectorSubF32X16Static s
  | .udVectorMulF32X16Static => Sys2Proof.Machine.execUdVectorMulF32X16Static s
  | .udVectorDivF32X16Static => Sys2Proof.Machine.execUdVectorDivF32X16Static s
  | .udVectorSqrtF32X16Static => Sys2Proof.Machine.execUdVectorSqrtF32X16Static s
  | .udVectorFmaF32X16Static => Sys2Proof.Machine.execUdVectorFmaF32X16Static s
  | .udVectorAddF64X2Static => Sys2Proof.Machine.execUdVectorAddF64X2Static s
  | .udVectorSubF64X2Static => Sys2Proof.Machine.execUdVectorSubF64X2Static s
  | .udVectorMulF64X2Static => Sys2Proof.Machine.execUdVectorMulF64X2Static s
  | .udVectorDivF64X2Static => Sys2Proof.Machine.execUdVectorDivF64X2Static s
  | .udVectorSqrtF64X2Static => Sys2Proof.Machine.execUdVectorSqrtF64X2Static s
  | .udVectorFmaF64X2Static => Sys2Proof.Machine.execUdVectorFmaF64X2Static s
  | .udVectorAddF64X4Static => Sys2Proof.Machine.execUdVectorAddF64X4Static s
  | .udVectorSubF64X4Static => Sys2Proof.Machine.execUdVectorSubF64X4Static s
  | .udVectorMulF64X4Static => Sys2Proof.Machine.execUdVectorMulF64X4Static s
  | .udVectorDivF64X4Static => Sys2Proof.Machine.execUdVectorDivF64X4Static s
  | .udVectorSqrtF64X4Static => Sys2Proof.Machine.execUdVectorSqrtF64X4Static s
  | .udVectorFmaF64X4Static => Sys2Proof.Machine.execUdVectorFmaF64X4Static s
  | .udVectorAddF64X8Static => Sys2Proof.Machine.execUdVectorAddF64X8Static s
  | .udVectorSubF64X8Static => Sys2Proof.Machine.execUdVectorSubF64X8Static s
  | .udVectorMulF64X8Static => Sys2Proof.Machine.execUdVectorMulF64X8Static s
  | .udVectorDivF64X8Static => Sys2Proof.Machine.execUdVectorDivF64X8Static s
  | .udVectorSqrtF64X8Static => Sys2Proof.Machine.execUdVectorSqrtF64X8Static s
  | .udVectorFmaF64X8Static => Sys2Proof.Machine.execUdVectorFmaF64X8Static s
  | .udVectorAddF64X16Static => Sys2Proof.Machine.execUdVectorAddF64X16Static s
  | .udVectorSubF64X16Static => Sys2Proof.Machine.execUdVectorSubF64X16Static s
  | .udVectorMulF64X16Static => Sys2Proof.Machine.execUdVectorMulF64X16Static s
  | .udVectorDivF64X16Static => Sys2Proof.Machine.execUdVectorDivF64X16Static s
  | .udVectorSqrtF64X16Static => Sys2Proof.Machine.execUdVectorSqrtF64X16Static s
  | .udVectorFmaF64X16Static => Sys2Proof.Machine.execUdVectorFmaF64X16Static s
  | .udVectorAddF32X2Dynamic => Sys2Proof.Machine.execUdVectorAddF32X2Dynamic s
  | .udVectorSubF32X2Dynamic => Sys2Proof.Machine.execUdVectorSubF32X2Dynamic s
  | .udVectorMulF32X2Dynamic => Sys2Proof.Machine.execUdVectorMulF32X2Dynamic s
  | .udVectorDivF32X2Dynamic => Sys2Proof.Machine.execUdVectorDivF32X2Dynamic s
  | .udVectorSqrtF32X2Dynamic => Sys2Proof.Machine.execUdVectorSqrtF32X2Dynamic s
  | .udVectorFmaF32X2Dynamic => Sys2Proof.Machine.execUdVectorFmaF32X2Dynamic s
  | .udVectorAddF32X4Dynamic => Sys2Proof.Machine.execUdVectorAddF32X4Dynamic s
  | .udVectorSubF32X4Dynamic => Sys2Proof.Machine.execUdVectorSubF32X4Dynamic s
  | .udVectorMulF32X4Dynamic => Sys2Proof.Machine.execUdVectorMulF32X4Dynamic s
  | .udVectorDivF32X4Dynamic => Sys2Proof.Machine.execUdVectorDivF32X4Dynamic s
  | .udVectorSqrtF32X4Dynamic => Sys2Proof.Machine.execUdVectorSqrtF32X4Dynamic s
  | .udVectorFmaF32X4Dynamic => Sys2Proof.Machine.execUdVectorFmaF32X4Dynamic s
  | .udVectorAddF32X8Dynamic => Sys2Proof.Machine.execUdVectorAddF32X8Dynamic s
  | .udVectorSubF32X8Dynamic => Sys2Proof.Machine.execUdVectorSubF32X8Dynamic s
  | .udVectorMulF32X8Dynamic => Sys2Proof.Machine.execUdVectorMulF32X8Dynamic s
  | .udVectorDivF32X8Dynamic => Sys2Proof.Machine.execUdVectorDivF32X8Dynamic s
  | .udVectorSqrtF32X8Dynamic => Sys2Proof.Machine.execUdVectorSqrtF32X8Dynamic s
  | .udVectorFmaF32X8Dynamic => Sys2Proof.Machine.execUdVectorFmaF32X8Dynamic s
  | .udVectorAddF32X16Dynamic => Sys2Proof.Machine.execUdVectorAddF32X16Dynamic s
  | .udVectorSubF32X16Dynamic => Sys2Proof.Machine.execUdVectorSubF32X16Dynamic s
  | .udVectorMulF32X16Dynamic => Sys2Proof.Machine.execUdVectorMulF32X16Dynamic s
  | .udVectorDivF32X16Dynamic => Sys2Proof.Machine.execUdVectorDivF32X16Dynamic s
  | .udVectorSqrtF32X16Dynamic => Sys2Proof.Machine.execUdVectorSqrtF32X16Dynamic s
  | .udVectorFmaF32X16Dynamic => Sys2Proof.Machine.execUdVectorFmaF32X16Dynamic s
  | .udVectorAddF64X2Dynamic => Sys2Proof.Machine.execUdVectorAddF64X2Dynamic s
  | .udVectorSubF64X2Dynamic => Sys2Proof.Machine.execUdVectorSubF64X2Dynamic s
  | .udVectorMulF64X2Dynamic => Sys2Proof.Machine.execUdVectorMulF64X2Dynamic s
  | .udVectorDivF64X2Dynamic => Sys2Proof.Machine.execUdVectorDivF64X2Dynamic s
  | .udVectorSqrtF64X2Dynamic => Sys2Proof.Machine.execUdVectorSqrtF64X2Dynamic s
  | .udVectorFmaF64X2Dynamic => Sys2Proof.Machine.execUdVectorFmaF64X2Dynamic s
  | .udVectorAddF64X4Dynamic => Sys2Proof.Machine.execUdVectorAddF64X4Dynamic s
  | .udVectorSubF64X4Dynamic => Sys2Proof.Machine.execUdVectorSubF64X4Dynamic s
  | .udVectorMulF64X4Dynamic => Sys2Proof.Machine.execUdVectorMulF64X4Dynamic s
  | .udVectorDivF64X4Dynamic => Sys2Proof.Machine.execUdVectorDivF64X4Dynamic s
  | .udVectorSqrtF64X4Dynamic => Sys2Proof.Machine.execUdVectorSqrtF64X4Dynamic s
  | .udVectorFmaF64X4Dynamic => Sys2Proof.Machine.execUdVectorFmaF64X4Dynamic s
  | .udVectorAddF64X8Dynamic => Sys2Proof.Machine.execUdVectorAddF64X8Dynamic s
  | .udVectorSubF64X8Dynamic => Sys2Proof.Machine.execUdVectorSubF64X8Dynamic s
  | .udVectorMulF64X8Dynamic => Sys2Proof.Machine.execUdVectorMulF64X8Dynamic s
  | .udVectorDivF64X8Dynamic => Sys2Proof.Machine.execUdVectorDivF64X8Dynamic s
  | .udVectorSqrtF64X8Dynamic => Sys2Proof.Machine.execUdVectorSqrtF64X8Dynamic s
  | .udVectorFmaF64X8Dynamic => Sys2Proof.Machine.execUdVectorFmaF64X8Dynamic s
  | .udVectorAddF64X16Dynamic => Sys2Proof.Machine.execUdVectorAddF64X16Dynamic s
  | .udVectorSubF64X16Dynamic => Sys2Proof.Machine.execUdVectorSubF64X16Dynamic s
  | .udVectorMulF64X16Dynamic => Sys2Proof.Machine.execUdVectorMulF64X16Dynamic s
  | .udVectorDivF64X16Dynamic => Sys2Proof.Machine.execUdVectorDivF64X16Dynamic s
  | .udVectorSqrtF64X16Dynamic => Sys2Proof.Machine.execUdVectorSqrtF64X16Dynamic s
  | .udVectorFmaF64X16Dynamic => Sys2Proof.Machine.execUdVectorFmaF64X16Dynamic s
  | .srArrayAddF32 => Sys2Proof.Machine.execSrArrayAddF32 s
  | .srArraySubF32 => Sys2Proof.Machine.execSrArraySubF32 s
  | .srArrayMulF32 => Sys2Proof.Machine.execSrArrayMulF32 s
  | .srArrayDivF32 => Sys2Proof.Machine.execSrArrayDivF32 s
  | .srArraySqrtF32 => Sys2Proof.Machine.execSrArraySqrtF32 s
  | .srArrayFmaF32 => Sys2Proof.Machine.execSrArrayFmaF32 s
  | .srArrayAddF64 => Sys2Proof.Machine.execSrArrayAddF64 s
  | .srArraySubF64 => Sys2Proof.Machine.execSrArraySubF64 s
  | .srArrayMulF64 => Sys2Proof.Machine.execSrArrayMulF64 s
  | .srArrayDivF64 => Sys2Proof.Machine.execSrArrayDivF64 s
  | .srArraySqrtF64 => Sys2Proof.Machine.execSrArraySqrtF64 s
  | .srArrayFmaF64 => Sys2Proof.Machine.execSrArrayFmaF64 s
  | .udArrayAddF32 => Sys2Proof.Machine.execUdArrayAddF32 s
  | .udArraySubF32 => Sys2Proof.Machine.execUdArraySubF32 s
  | .udArrayMulF32 => Sys2Proof.Machine.execUdArrayMulF32 s
  | .udArrayDivF32 => Sys2Proof.Machine.execUdArrayDivF32 s
  | .udArraySqrtF32 => Sys2Proof.Machine.execUdArraySqrtF32 s
  | .udArrayFmaF32 => Sys2Proof.Machine.execUdArrayFmaF32 s
  | .udArrayAddF64 => Sys2Proof.Machine.execUdArrayAddF64 s
  | .udArraySubF64 => Sys2Proof.Machine.execUdArraySubF64 s
  | .udArrayMulF64 => Sys2Proof.Machine.execUdArrayMulF64 s
  | .udArrayDivF64 => Sys2Proof.Machine.execUdArrayDivF64 s
  | .udArraySqrtF64 => Sys2Proof.Machine.execUdArraySqrtF64 s
  | .udArrayFmaF64 => Sys2Proof.Machine.execUdArrayFmaF64 s
  | .primTwosumF32 => Sys2Proof.Machine.execPrimTwosumF32 s
  | .primTwoprodF32 => Sys2Proof.Machine.execPrimTwoprodF32 s
  | .primSrroundF32 => Sys2Proof.Machine.execPrimSrroundF32 s
  | .primUdroundF32 => Sys2Proof.Machine.execPrimUdroundF32 s
  | .primTwosumF32X2 => Sys2Proof.Machine.execPrimTwosumF32X2 s
  | .primTwoprodF32X2 => Sys2Proof.Machine.execPrimTwoprodF32X2 s
  | .primSrroundF32X2 => Sys2Proof.Machine.execPrimSrroundF32X2 s
  | .primUdroundF32X2 => Sys2Proof.Machine.execPrimUdroundF32X2 s
  | .primTwosumF32X4 => Sys2Proof.Machine.execPrimTwosumF32X4 s
  | .primTwoprodF32X4 => Sys2Proof.Machine.execPrimTwoprodF32X4 s
  | .primSrroundF32X4 => Sys2Proof.Machine.execPrimSrroundF32X4 s
  | .primUdroundF32X4 => Sys2Proof.Machine.execPrimUdroundF32X4 s
  | .primTwosumF32X8 => Sys2Proof.Machine.execPrimTwosumF32X8 s
  | .primTwoprodF32X8 => Sys2Proof.Machine.execPrimTwoprodF32X8 s
  | .primSrroundF32X8 => Sys2Proof.Machine.execPrimSrroundF32X8 s
  | .primUdroundF32X8 => Sys2Proof.Machine.execPrimUdroundF32X8 s
  | .primTwosumF32X16 => Sys2Proof.Machine.execPrimTwosumF32X16 s
  | .primTwoprodF32X16 => Sys2Proof.Machine.execPrimTwoprodF32X16 s
  | .primSrroundF32X16 => Sys2Proof.Machine.execPrimSrroundF32X16 s
  | .primUdroundF32X16 => Sys2Proof.Machine.execPrimUdroundF32X16 s
  | .primTwosumF64 => Sys2Proof.Machine.execPrimTwosumF64 s
  | .primTwoprodF64 => Sys2Proof.Machine.execPrimTwoprodF64 s
  | .primSrroundF64 => Sys2Proof.Machine.execPrimSrroundF64 s
  | .primUdroundF64 => Sys2Proof.Machine.execPrimUdroundF64 s
  | .primTwosumF64X2 => Sys2Proof.Machine.execPrimTwosumF64X2 s
  | .primTwoprodF64X2 => Sys2Proof.Machine.execPrimTwoprodF64X2 s
  | .primSrroundF64X2 => Sys2Proof.Machine.execPrimSrroundF64X2 s
  | .primUdroundF64X2 => Sys2Proof.Machine.execPrimUdroundF64X2 s
  | .primTwosumF64X4 => Sys2Proof.Machine.execPrimTwosumF64X4 s
  | .primTwoprodF64X4 => Sys2Proof.Machine.execPrimTwoprodF64X4 s
  | .primSrroundF64X4 => Sys2Proof.Machine.execPrimSrroundF64X4 s
  | .primUdroundF64X4 => Sys2Proof.Machine.execPrimUdroundF64X4 s
  | .primTwosumF64X8 => Sys2Proof.Machine.execPrimTwosumF64X8 s
  | .primTwoprodF64X8 => Sys2Proof.Machine.execPrimTwoprodF64X8 s
  | .primSrroundF64X8 => Sys2Proof.Machine.execPrimSrroundF64X8 s
  | .primUdroundF64X8 => Sys2Proof.Machine.execPrimUdroundF64X8 s
  | .primTwosumF64X16 => Sys2Proof.Machine.execPrimTwosumF64X16 s
  | .primTwoprodF64X16 => Sys2Proof.Machine.execPrimTwoprodF64X16 s
  | .primSrroundF64X16 => Sys2Proof.Machine.execPrimSrroundF64X16 s
  | .primUdroundF64X16 => Sys2Proof.Machine.execPrimUdroundF64X16 s
  | .rngSeed => Sys2Proof.Machine.execRngSeed s
  | .rngNext => Sys2Proof.Machine.execRngNext s
  | .rngUniformF32 => Sys2Proof.Machine.execRngUniformF32 s
  | .rngJump => Sys2Proof.Machine.execRngJump s
  | .rngLjump => Sys2Proof.Machine.execRngLjump s
  | .rngNextX2 => Sys2Proof.Machine.execRngNextX2 s
  | .rngUniformF32X2 => Sys2Proof.Machine.execRngUniformF32X2 s
  | .rngJumpX2 => Sys2Proof.Machine.execRngJumpX2 s
  | .rngLjumpX2 => Sys2Proof.Machine.execRngLjumpX2 s
  | .rngNextX4 => Sys2Proof.Machine.execRngNextX4 s
  | .rngUniformF32X4 => Sys2Proof.Machine.execRngUniformF32X4 s
  | .rngJumpX4 => Sys2Proof.Machine.execRngJumpX4 s
  | .rngLjumpX4 => Sys2Proof.Machine.execRngLjumpX4 s
  | .rngNextX8 => Sys2Proof.Machine.execRngNextX8 s
  | .rngUniformF32X8 => Sys2Proof.Machine.execRngUniformF32X8 s
  | .rngJumpX8 => Sys2Proof.Machine.execRngJumpX8 s
  | .rngLjumpX8 => Sys2Proof.Machine.execRngLjumpX8 s
  | .rngNextX16 => Sys2Proof.Machine.execRngNextX16 s
  | .rngUniformF32X16 => Sys2Proof.Machine.execRngUniformF32X16 s
  | .rngJumpX16 => Sys2Proof.Machine.execRngJumpX16 s
  | .rngLjumpX16 => Sys2Proof.Machine.execRngLjumpX16 s
  | .rngUniformF64 => Sys2Proof.Machine.execRngUniformF64 s
  | .rngUniformF64X2 => Sys2Proof.Machine.execRngUniformF64X2 s
  | .rngUniformF64X4 => Sys2Proof.Machine.execRngUniformF64X4 s
  | .rngUniformF64X8 => Sys2Proof.Machine.execRngUniformF64X8 s
  | .rngUniformF64X16 => Sys2Proof.Machine.execRngUniformF64X16 s
  | .sysNop => Sys2Proof.Machine.execSysNop s
  | .sysProbe => Sys2Proof.Machine.execSysProbe s

end Sys2Proof.Machine
end

