-- ==== Sys2Proof/Machine/Flags.lean ====
section
/-! DEFINITION. The block has no flags (spec/10_state.md R25). What stands in their place are the fields
of `STATUS` and `CTRL`, as words (R29, R30). -/

namespace Sys2Proof.Machine

/-- The 2-bit code of `STATUS.DSTATE` (R29). -/
def DispatchState.code : DispatchState → BitVec 2
  | .unselected => 0#2
  | .probed => 1#2
  | .bound => 2#2

/-- The 4-bit response code (R251). -/
def Response.code : Response → BitVec 4
  | .ok => 0#4
  | .illegal => 1#4
  | .align => 2#4
  | .range => 3#4
  | .overlap => 4#4

/-- `STATUS` as a word (R29): `BOUND64` 14..12, `BOUND32` 10..8, `ERR` 7..4, `BUSY` 2 reading 0 (R281),
`DSTATE` 1..0, every other bit 0. -/
def statusWord (s : State) : Word :=
  (s.dstate.code.setWidth 64) ||| (s.err.code.setWidth 64 <<< 4) ||| (s.bound32.setWidth 64 <<< 8) |||
    (s.bound64.setWidth 64 <<< 12)

/-- `CTRL` as a word (R30): `TRACE` 0, `SEEDOVR_EN` 1, `RNG_INIT` 2, every other bit 0. -/
def ctrlWord (s : State) : Word :=
  ((BitVec.ofBool s.trace).setWidth 64) ||| ((BitVec.ofBool s.seedOvrEn).setWidth 64 <<< 1) |||
    ((BitVec.ofBool s.rngInit).setWidth 64 <<< 2)

/-- A host write to `CTRL` sets all three fields from bits 2..0 (R30). -/
def setCtrl (v : Word) (s : State) : State :=
  { s with trace := v.getLsbD 0, seedOvrEn := v.getLsbD 1, rngInit := v.getLsbD 2 }

end Sys2Proof.Machine
end

