-- ==== Sys2Proof/Machine/Registers.lean ====
section
/-! DEFINITION. The register interface by number, and reset from outside (spec/10_state.md R27 to R39,
spec/70_reset_and_hazards.md R270). -/

namespace Sys2Proof.Machine

/-- Word `w` of a stream state (R10). -/
def streamWord (v : Stream) (w : Nat) : Word :=
  match w with
  | 0 => v.s0
  | 1 => v.s1
  | 2 => v.s2
  | _ => v.s3

/-- Replacing word `w` of a stream state (R26, R39). -/
def setStreamWord (v : Stream) (w : Nat) (x : Word) : Stream :=
  match w with
  | 0 => { v with s0 := x }
  | 1 => { v with s1 := x }
  | 2 => { v with s2 := x }
  | _ => { v with s3 := x }

/-- What a host read of a register number returns (R27, R39). Numbers below 16. -/
def readControl (n : Nat) (s : State) : Word :=
  match n with
  | 1 => statusWord s
  | 2 => ctrlWord s
  | 3 => s.seedOvr
  | 4 => s.tid.setWidth 64
  | 5 => s.seedArg
  | 6 => s.streamArg.setWidth 64
  | 7 => s.count
  | 8 => s.srca
  | 9 => s.srcb
  | 10 => s.srcc
  | 11 => s.dst
  | 12 => hwcfg s.params
  | _ => 0#64

/-- What a host read of a register number returns (R27, R39): reserved numbers and `CMD` read 0. -/
def readRegister (n : Nat) (s : State) : Word :=
  if n < 16 then readControl n s
  else if n < 32 then s.opa[lane (n - 16)]
  else if n < 48 then s.opb[lane (n - 32)]
  else if n < 64 then s.opc[lane (n - 48)]
  else if n < 80 then s.res[lane (n - 64)]
  else if n < 96 then s.resx[lane (n - 80)]
  else if 128 ≤ n ∧ n < 192 then streamWord s.streams[lane ((n - 128) / 4)] ((n - 128) % 4)
  else 0#64

/-- A host write to a register number below 16 other than `CMD` (R27, R39): narrow registers ignore the
upper bits, read-only and reserved numbers ignore the write. -/
def writeControl (n : Nat) (v : Word) (s : State) : State :=
  match n with
  | 2 => setCtrl v s
  | 3 => { s with seedOvr := v }
  | 4 => { s with tid := v.setWidth 16 }
  | 5 => { s with seedArg := v }
  | 6 => { s with streamArg := v.setWidth 16 }
  | 7 => { s with count := v }
  | 8 => { s with srca := v }
  | 9 => { s with srcb := v }
  | 10 => { s with srcc := v }
  | 11 => { s with dst := v }
  | _ => s

/-- A host write to a register number other than `CMD` (R27, R39): `RES`, `RESX` and reserved numbers
ignore it (R22). -/
def writeRegister (n : Nat) (v : Word) (s : State) : State :=
  if n < 16 then writeControl n v s
  else if n < 32 then { s with opa := s.opa.set (lane (n - 16)) v }
  else if n < 48 then { s with opb := s.opb.set (lane (n - 32)) v }
  else if n < 64 then { s with opc := s.opc.set (lane (n - 48)) v }
  else if 128 ≤ n ∧ n < 192 then
    setStream (lane ((n - 128) / 4)) (setStreamWord s.streams[lane ((n - 128) / 4)] ((n - 128) % 4) v) s
  else s

/-- A host read (R39): the value goes to the host and nothing in the block changes. -/
def hostRead (n : Nat) (s : State) : State := { s with readback := readRegister n s :: s.readback }

/-- A host store to data memory (R60, R68); an address outside ordinary memory is refused (log 3). -/
def hostStore (a : Word) (v : Byte) (s : State) : Host.Outcome State Fault Refusal :=
  if memValid s.params a.toNat 1 then .next { s with mem := Memory.write s.mem a.toNat v }
  else .refused .hostAccessOutsideMemory

/-- A host load from data memory (R60, R68); an address outside ordinary memory is refused (log 3). -/
def hostLoad (a : Word) (s : State) : Host.Outcome State Fault Refusal :=
  if memValid s.params a.toNat 1 then
    .next { s with readback := (Memory.read s.mem a.toNat).setWidth 64 :: s.readback }
  else .refused .hostAccessOutsideMemory

/-- Reset of the instance between commands (R270, R271): every register as after reset, data memory and
the host's side untouched, fresh unspecified values (log 4, 9). -/
def resetAction (s : State) : State :=
  { State.resetOf s.params (s.resets + 1) with
    mem := s.mem
    pending := s.pending
    readback := s.readback
    envSamples := s.envSamples }

end Sys2Proof.Machine
end

