-- ==== Sys2Proof/Machine/Step.lean ====
section
/-! DEFINITION. One step: the host's next action, performed to completion (spec/00_scope.md R5, R6;
spec/46_dispatch.md R234). -/

namespace Sys2Proof.Machine

/-- A write of `v` to `CMD` (R28, R234): a legal command is executed; every other value is answered
`ERR_ILLEGAL` and changes nothing else (R89, R251). -/
def issue (v : Word) (s : State) : Host.Outcome State Fault Refusal :=
  match decode v with
  | .ok i => exec i s
  | .error _ => .next (respond .illegal s)

/-- Performing one host action (R5, R39, R60, R270). -/
def perform (a : HostAction) (s : State) : Host.Outcome State Fault Refusal :=
  match a with
  | .writeReg n v => if n = 0 then issue v s else .next (writeRegister n v s)
  | .readReg n => .next (hostRead n s)
  | .storeByte a v => hostStore a v s
  | .loadByte a => hostLoad a s
  | .resetBlock => .next (resetAction s)

/-- One step of the machine: the first pending host action is taken off the program and performed; with no
action left the block does nothing (R5, R6; log 1). -/
def step (s : State) : Host.Outcome State Fault Refusal :=
  match s.pending with
  | [] => .next s
  | a :: rest => perform a { s with pending := rest }

/-- `s` with the command of an opcode-table word as the host's next action: a write of the word to `CMD`
(R6, R28; log 1). -/
def State.withFetchWord (s : State) (nbits w : Nat) : State :=
  { s with pending := .writeReg 0 (BitVec.ofNat 64 (w % 2 ^ nbits)) :: s.pending }

end Sys2Proof.Machine
end

