-- ==== Sys2Proof/Safety.lean ====
section
/-! DEFINITION. The terms the statements use: what a good state is, what a command's form makes of a
state, and the closed forms of the lane and element loops (spec/46_dispatch.md R221 to R229): every lane's
result and stream from the state before the command, with no loop. -/

namespace Sys2Proof.Machine

/-- `STATUS` as R29 and R226 allow it between commands: `UNSELECTED` with both bound fields 0, or `BOUND`
with the native lane counts of the implementation. -/
def dispatchOk (s : State) : Bool :=
  match s.dstate with
  | .unselected => s.bound32 == 0#3 && s.bound64 == 0#3
  | .probed => false
  | .bound => s.bound32 == s.params.hwLanes32.log2 && s.bound64 == s.params.hwLanes64.log2

/-- The invariant every step keeps: memory in canonical form, the dispatch state legal. -/
def State.Inv (s : State) : Prop := Memory.wf s.mem = true ∧ dispatchOk s = true

/-- A command whose effects reach data memory: an array or a dynamic vector command (R61). -/
def usesMemory : Form → Bool
  | .arith _ .dynamic _ _ _ => true
  | .array _ _ _ => true
  | _ => false

/-- A command that writes `RESX` (R22). -/
def writesResx : Form → Bool
  | .prim _ _ .twosum => true
  | .prim _ _ .twoprod => true
  | _ => false

/-- A command that runs the probe-and-bind step when it is not rejected (R227). -/
def probes : Form → Bool
  | .arith _ .static _ _ _ => true
  | .arith _ .dynamic _ _ _ => true
  | .array _ _ _ => true
  | .sys .probe => true
  | _ => false

/-- Some lane or element below `n` draws. -/
def someDraw (n : Nat) (draws : Nat → Bool) : Bool := (List.range n).any draws

/-- The state from which lanes draw: lazily initialised when some lane draws, untouched when none does
(R175, R223). -/
def drawBase (n : Nat) (draws : Nat → Bool) (s : State) : State :=
  if someDraw n draws then lazyInit s else s

/-- The result of lane `j` in the closed form: its lane function on the raw draw its own stream yields
(R221, R229). -/
def laneValue {w : Nat} (l : Lane w) (j : Fin 16) (base : State) : BitVec w :=
  l.value (out base.params.prng base.streams[j])

/-- The state after the draws of `n` lanes: each lane below `n` that draws has advanced its own stream
once, no other stream has moved (R221, R223). -/
def afterLaneDraws (n : Nat) (draws : Nat → Bool) (s : State) : State :=
  let base := drawBase n draws s
  { base with
    streams := Vector.ofFn fun j =>
      if j.val < n && draws j.val then advance base.params.prng base.streams[j] else base.streams[j] }

/-- The closed form of a command that runs a lane function in each lane below `n` and writes `RES`:
lanes from `n` on keep their value (R22, R222, R223). -/
def lanesToRes {w : Nat} (n : Nat) (l : Nat → Lane w) (s : State) : State :=
  let draws := fun i => (l i).draws
  { afterLaneDraws n draws s with
    res := Vector.ofFn fun j =>
      if j.val < n then (laneValue (l j.val) j (drawBase n draws s)).setWidth 64 else s.res[j]
    err := .ok }

/-- The lane functions of a register-operand kernel command, from the state before it (R220). -/
def kernelLanes (m : Mode) (op : Op) (k : Kind) (s : State) (i : Nat) : Lane k.width :=
  kernel m op k (laneOperands op k (lane i) s)

/-- The element functions of an array command, on the operands memory held before the command (R225). -/
def kernelElements (m : Mode) (op : Op) (k : Kind) (s : State) (j : Nat) : Lane k.width :=
  kernel m op k (elementOperands op k j s)

/-- How many draws stream `l` has served for the elements below `n` (R221, R225). -/
def drawsBefore (draws : Nat → Bool) (l n : Nat) : Nat :=
  ((List.range n).filter fun j => j % 16 == l && draws j).length

/-- The state in which stream `l` stands before element `n` of an array command (R221, R225). -/
def elementStream (draws : Nat → Bool) (l : Fin 16) (n : Nat) (base : State) : Stream :=
  repeated (advance base.params.prng) (drawsBefore draws l.val n) base.streams[l]

/-- The result of element `j` of an array command of `n` elements in the closed form (R225). -/
def elementValue (m : Mode) (op : Op) (k : Kind) (n j : Nat) (s : State) : Pat k :=
  let draws := fun i => (kernelElements m op k s i).draws
  let base := drawBase n draws s
  (kernelElements m op k s j).value (out base.params.prng (elementStream draws (lane j) j base))

/-- The state after the draws of an array command of `n` elements: stream `l` has served elements `l`,
`l + 16`, ... (R221, R225). -/
def afterElementDraws (n : Nat) (draws : Nat → Bool) (s : State) : State :=
  let base := drawBase n draws s
  { base with streams := Vector.ofFn fun l => elementStream draws l n base }

/-- The plain base operation of a kernel (R190, R205). -/
def baseOp (op : Op) (k : Kind) (x : Operands k) : Pat k :=
  match op with
  | .add => fadd k x.a x.b
  | .sub => fsub k x.a x.b
  | .mul => fmul k x.a x.b
  | .div => fdiv k x.a x.b
  | .sqrt => fsqrt k x.a
  | .fma => ffma k x.a x.b x.c

/-- The gate of a kernel: every operand its arity uses is a number (R190, R205). -/
def gate (op : Op) (k : Kind) (x : Operands k) : Bool :=
  isNumber k x.a && (decide (arity op < 2) || isNumber k x.b) && (decide (arity op < 3) || isNumber k x.c)

/-- What a command of a given form does to a state, shape by shape (R83 to R88, R220). -/
def formEffect (f : Form) (s : State) : State :=
  match f with
  | .arith m .none k _ op => scalarKernel m op k s
  | .arith m .static k lw op => staticKernel m op k (2 ^ lw) s
  | .arith m .dynamic k lw op => dynamicKernel m op k (2 ^ lw) s
  | .array m k op => arrayKernel m op k s
  | .prim k lw .twosum => twosumLanes k (2 ^ lw) s
  | .prim k lw .twoprod => twoprodLanes k (2 ^ lw) s
  | .prim k lw .srround => srRoundLanes k (2 ^ lw) s
  | .prim k lw .udround => udRoundLanes k (2 ^ lw) s
  | .rng .seed _ _ => seedStreams s
  | .rng .next _ lw => nextLanes (2 ^ lw) s
  | .rng .uniform k lw => uniformLanes k (2 ^ lw) s
  | .rng .jump _ lw => jumpLanes (2 ^ lw) s
  | .rng .ljump _ lw => ljumpLanes (2 ^ lw) s
  | .sys .nop => nopCommand s
  | .sys .probe => probeCommand s

end Sys2Proof.Machine
end

