-- ==== Sys2Proof/Certificates/Slice0/Obligations.lean ====
section
/-! DEFINITION. The statements for the provers. Each docstring names the rules of spec/ it follows. -/

open Sys2Proof Sys2Proof.Machine

/-! Encoding. -/

/-- R89, R93, R28: a value written to `CMD` is a command exactly when it is that command's word with bits
63..32 zero; every other value is no command. -/
def Obligations.CommandsAreExactlyTheirWords : Prop :=
  ∀ (v : Word) (i : Instr), decode v = .ok i ↔ v = encodeCmd i

/-- The example words of R93 decode to the commands R93 gives them to. -/
def Obligations.ExampleWordsDecode : Prop :=
  decode 0x10000000#64 = .ok .srScalarAddF32 ∧ decode 0x11000000#64 = .ok .srScalarAddF64 ∧
  decode 0x18020000#64 = .ok .udScalarMulF32 ∧ decode 0x12420000#64 = .ok .srVectorMulF32X4Static ∧
  decode 0x1D220000#64 = .ok .udVectorMulF64X2Dynamic ∧ decode 0x15650000#64 = .ok .srVectorFmaF64X8Dynamic ∧
  decode 0x20000000#64 = .ok .srArrayAddF32 ∧ decode 0x29040000#64 = .ok .udArraySqrtF64 ∧
  decode 0x30000000#64 = .ok .primTwosumF32 ∧ decode 0x31220000#64 = .ok .primSrroundF64X2 ∧
  decode 0x40000000#64 = .ok .rngSeed ∧ decode 0x40210000#64 = .ok .rngNextX2 ∧
  decode 0x40220000#64 = .ok .rngUniformF32X2 ∧ decode 0x41020000#64 = .ok .rngUniformF64 ∧
  decode 0x40030000#64 = .ok .rngJump ∧ decode 0x40840000#64 = .ok .rngLjumpX16 ∧
  decode 0x50000000#64 = .ok .sysNop ∧ decode 0x50010000#64 = .ok .sysProbe

/-! The step. -/

/-- R5, R28, R234: when the host's next action writes a command's value to `CMD`, the step is that
command's `exec` on the state with the action taken off the program; a command's `exec` never touches the
rest of the program.
The host's program as a field of the state is the model's choice (log 1). -/
def Obligations.StepRunsTheDecodedCommand : Prop :=
  ∀ (s : State) (v : Word) (i : Instr) (rest : List HostAction),
    s.pending = .writeReg 0 v :: rest → decode v = .ok i →
      step s = exec i { s with pending := rest } ∧
      ∀ t, exec i { s with pending := rest } = .next t → t.pending = rest

/-- R89, R251, R253: a value written to `CMD` that is no command's word sets `STATUS.ERR` to
`ERR_ILLEGAL` and changes nothing else (but for the action taken off the program).
The host's program as a field of the state is the model's choice (log 1). -/
def Obligations.IllegalCommandChangesErrOnly : Prop :=
  ∀ (s : State) (v : Word) (rest : List HostAction),
    s.pending = .writeReg 0 v :: rest → (∀ i, v ≠ encodeCmd i) →
      step s = .next { s with pending := rest, err := .illegal }

/-- R234, R250, R259: every command completes in every state, whatever its operands: no fault, no refusal. -/
def Obligations.EveryCommandCompletes : Prop :=
  ∀ (i : Instr) (s : State), ∃ t, exec i s = .next t

/-- R253: a command that responds with an error has changed nothing but `STATUS.ERR` (and the action taken
off the program), whatever the host wrote to `CMD`; R251: among the legal commands only an array or a dynamic
vector command responds with one, and never with `ERR_ILLEGAL`.
The host's program as a field of the state is the model's choice (log 1). -/
def Obligations.ErrorResponseChangesErrOnly : Prop :=
  ∀ (s t : State) (v : Word) (rest : List HostAction),
    s.pending = .writeReg 0 v :: rest → step s = .next t → t.err ≠ .ok →
      t = { s with pending := rest, err := t.err } ∧
      ∀ i, decode v = .ok i → usesMemory i.form = true ∧ t.err ≠ .illegal

/-! What no command changes. -/

/-- R21, R30, R34, R35, R36, R37, R61, R22: no command writes an operand register, `TRACE`, `SEEDOVR_EN`,
`SEEDOVR`, `TID`, `SEEDARG`, `STREAMARG`, `COUNT`, `SRCA`, `SRCB`, `SRCC` or `DST`, nor the parameters;
only array and dynamic vector commands change memory, and they change no result register; only
`prim::twosum` and `prim::twoprod` change `RESX`. -/
def Obligations.CommandFrame : Prop :=
  ∀ (i : Instr) (s t : State), exec i s = .next t →
    t.opa = s.opa ∧ t.opb = s.opb ∧ t.opc = s.opc ∧
    t.trace = s.trace ∧ t.seedOvrEn = s.seedOvrEn ∧ t.seedOvr = s.seedOvr ∧ t.tid = s.tid ∧
    t.seedArg = s.seedArg ∧ t.streamArg = s.streamArg ∧ t.count = s.count ∧ t.srca = s.srca ∧
    t.srcb = s.srcb ∧ t.srcc = s.srcc ∧ t.dst = s.dst ∧ t.params = s.params ∧
    t.pending = s.pending ∧ t.readback = s.readback ∧ t.resets = s.resets ∧
    (usesMemory i.form = false → t.mem = s.mem) ∧
    (usesMemory i.form = true → t.res = s.res) ∧
    (writesResx i.form = false → t.resx = s.resx)

/-- R33: the trace flag has no effect on any result: a command run with it set or cleared gives the same
state, the flag apart. -/
def Obligations.TraceHasNoEffect : Prop :=
  ∀ (i : Instr) (s t : State) (b : Bool), exec i s = .next t →
    exec i { s with trace := b } = .next { t with trace := b }

/-- R228, R229 (e): nothing a command does depends on the native lane counts, but for `STATUS.BOUND32` and
`BOUND64`: with other native lane counts the same command gives the same state, those fields and the
parameters themselves apart. -/
def Obligations.NativeLaneCountsDoNotMatter : Prop :=
  ∀ (i : Instr) (s t : State) (a b : LaneCount), exec i s = .next t →
    ∃ u, exec i { s with params := { s.params with hwLanes32 := a, hwLanes64 := b } } = .next u ∧
      u = { t with params := u.params, bound32 := u.bound32, bound64 := u.bound64 }

/-! Scalar and static vector kernel commands. -/

/-- R222, R192 to R197, R206 to R211 (the 24 `sr::scalar::…` and `ud::scalar::…` commands): lane 0 of `RES`
takes the kernel's value on lane 0's operands and the raw draw of `S[0]`, zero-extended; `S[0]` advances
once when the kernel draws, after lazy initialisation; the response is `OK`; every other field keeps its
value, memory, `RESX`, the other lanes of `RES` and the dispatch state among them. -/
def Obligations.ScalarKernelResult : Prop :=
  ∀ (i : Instr) (m : Mode) (k : Kind) (lw : Nat) (op : Op) (s : State), i.form = .arith m .none k lw op →
    exec i s = .next (lanesToRes 1 (kernelLanes m op k s) s)

/-- R223, R221, R229 (the 96 `…_static` commands): lanes 0 to `W - 1` of `RES` take each lane's kernel
value, on that lane's operands and the raw draw of that lane's stream; each lane that draws advances its
own stream once; the probe runs; the response is `OK`; every other field keeps its value. -/
def Obligations.StaticVectorResult : Prop :=
  ∀ (i : Instr) (m : Mode) (k : Kind) (lw : Nat) (op : Op) (s : State), i.form = .arith m .static k lw op →
    exec i s = .next (lanesToRes (2 ^ lw) (kernelLanes m op k s) (probeAndBind s))

/-- R229 (a), (b): lane `j` of a narrower vector command holds the result lane `j` of a wider one of the
same mode, operation and kind holds, and a scalar command holds lane 0's. -/
def Obligations.WidthInvarianceOfResults : Prop :=
  ∀ (i₁ i₂ : Instr) (m : Mode) (k : Kind) (lw₁ lw₂ : Nat) (op : Op) (f₁ f₂ : Flavor) (s t₁ t₂ : State),
    i₁.form = .arith m f₁ k lw₁ op → i₂.form = .arith m f₂ k lw₂ op → f₁ ≠ .dynamic → f₂ ≠ .dynamic →
    exec i₁ s = .next t₁ → exec i₂ s = .next t₂ →
    ∀ j : Fin 16, j.val < 2 ^ lw₁ → j.val < 2 ^ lw₂ → t₁.res[j] = t₂.res[j]

/-! Dynamic vector commands. -/

/-- R224, R62, R253 (the 96 `…_dynamic` commands): with `DST` aligned and its range ordinary memory, element
`j` at `DST` takes lane `j`'s kernel value and every byte outside the `W` elements keeps its value; the
streams move as in the static form; `RES` is not written; the response is `OK`; every other field keeps
its value, but for what the probe writes. -/
def Obligations.DynamicVectorResult : Prop :=
  ∀ (i : Instr) (m : Mode) (k : Kind) (lw : Nat) (op : Op) (s : State), i.form = .arith m .dynamic k lw op →
    Memory.wf s.mem = true → s.dst.toNat % k.bytes = 0 → s.dst.toNat + 2 ^ lw * k.bytes ≤ 2 ^ 64 →
    memValid s.params s.dst.toNat (2 ^ lw * k.bytes) = true →
    ∃ t, exec i s = .next t ∧
      t = { afterLaneDraws (2 ^ lw) (fun j => (kernelLanes m op k s j).draws) (probeAndBind s) with
            mem := t.mem, err := .ok } ∧
      (∀ j : Fin 16, j.val < 2 ^ lw → readElement k t.mem (elementAddr k s.dst j.val) =
        laneValue (kernelLanes m op k s j.val) j
          (drawBase (2 ^ lw) (fun j => (kernelLanes m op k s j).draws) (probeAndBind s))) ∧
      (∀ a, a < s.dst.toNat ∨ s.dst.toNat + 2 ^ lw * k.bytes ≤ a → Memory.read t.mem a = Memory.read s.mem a)

/-- R63, R64, R224, R252: a dynamic vector command is rejected with `ERR_ALIGN` when `DST` is no multiple of
the element size, and otherwise with `ERR_RANGE` when the range passes `2^64` or is no ordinary memory;
then nothing else changes. -/
def Obligations.DynamicVectorRejects : Prop :=
  ∀ (i : Instr) (m : Mode) (k : Kind) (lw : Nat) (op : Op) (s : State), i.form = .arith m .dynamic k lw op →
    (s.dst.toNat % k.bytes ≠ 0 → exec i s = .next { s with err := .align }) ∧
    (s.dst.toNat % k.bytes = 0 →
      (2 ^ 64 < s.dst.toNat + 2 ^ lw * k.bytes ∨ memValid s.params s.dst.toNat (2 ^ lw * k.bytes) = false) →
      exec i s = .next { s with err := .range })

/-! Array commands. -/

/-- R225, R68, R221, R65 (the 24 array commands): when `COUNT` is not 0 and the checks pass, element `j` at
`DST` takes the kernel's value on the operands memory held BEFORE the command and on the draw of stream
`j mod 16` that follows the draws of the elements before `j`; every byte outside the destination range
keeps its value; each stream has served its elements in order; the probe runs; the response is `OK`;
every other field keeps its value, the base registers and `RES` among them. -/
def Obligations.ArrayResult : Prop :=
  ∀ (i : Instr) (m : Mode) (k : Kind) (op : Op) (s : State) (n : Nat), i.form = .array m k op →
    Memory.wf s.mem = true → n = s.count.toNat → 0 < n → arrayCheck op k s = .ok →
    ∃ t, exec i s = .next t ∧
      t = { afterElementDraws n (fun j => (kernelElements m op k s j).draws) (probeAndBind s) with
            mem := t.mem, err := .ok } ∧
      (∀ j, j < n → readElement k t.mem (elementAddr k s.dst j) =
        (kernelElements m op k s j).value
          (out s.params.prng
            (elementStream (fun j => (kernelElements m op k s j).draws) (lane j) j
              (drawBase n (fun j => (kernelElements m op k s j).draws) (probeAndBind s))))) ∧
      (∀ a, a < s.dst.toNat ∨ s.dst.toNat + n * k.bytes ≤ a → Memory.read t.mem a = Memory.read s.mem a)

/-- R63 to R65, R225, R252: what the checks of an array command look at, and in which order: with
`COUNT = 0` nothing; otherwise every base address it uses (`SRCA` always, `SRCB` unless the operation is
`sqrt`, `SRCC` for `fma`, `DST`) for alignment, then every range, then every source for partial overlap
with the destination; a rejected command changes `STATUS.ERR` and nothing else. -/
def Obligations.ArrayRejects : Prop :=
  ∀ (i : Instr) (m : Mode) (k : Kind) (op : Op) (s : State), i.form = .array m k op →
    let n := s.count.toNat
    let used := fun b => b = s.srca ∨ (op ≠ .sqrt ∧ b = s.srcb) ∨ (op = .fma ∧ b = s.srcc)
    let misaligned := fun b : Word => b.toNat % k.bytes ≠ 0
    let outside := fun b : Word =>
      2 ^ 64 < b.toNat + n * k.bytes ∨ memValid s.params b.toNat (n * k.bytes) = false
    let overlapping := fun b : Word =>
      b ≠ s.dst ∧ b.toNat < s.dst.toNat + n * k.bytes ∧ s.dst.toNat < b.toNat + n * k.bytes
    0 < n →
    ((misaligned s.dst ∨ ∃ b, used b ∧ misaligned b) → exec i s = .next { s with err := .align }) ∧
    ((¬ misaligned s.dst ∧ ∀ b, used b → ¬ misaligned b) → (outside s.dst ∨ ∃ b, used b ∧ outside b) →
      exec i s = .next { s with err := .range }) ∧
    ((¬ misaligned s.dst ∧ ∀ b, used b → ¬ misaligned b) → (¬ outside s.dst ∧ ∀ b, used b → ¬ outside b) →
      (∃ b, used b ∧ overlapping b) → exec i s = .next { s with err := .overlap }) ∧
    ((¬ misaligned s.dst ∧ ∀ b, used b → ¬ misaligned b) → (¬ outside s.dst ∧ ∀ b, used b → ¬ outside b) →
      (∀ b, used b → ¬ overlapping b) → arrayCheck op k s = .ok)

/-- R225, R63, R64 (C8): an array command with `COUNT = 0` looks at no address: the probe runs, the response
is `OK`, nothing else changes. -/
def Obligations.ArrayOfNoElements : Prop :=
  ∀ (i : Instr) (m : Mode) (k : Kind) (op : Op) (s : State), i.form = .array m k op → s.count = 0#64 →
    exec i s = .next { probeAndBind s with err := .ok }

/-- R229 (c): an array command of at most 16 elements whose buffers hold the lane operands produces in memory
what the dynamic vector command of the same mode, operation and kind writes for those lanes. -/
def Obligations.ArrayMatchesDynamicVector : Prop :=
  ∀ (ia iv : Instr) (m : Mode) (k : Kind) (op : Op) (lw : Nat) (s t u : State),
    ia.form = .array m k op → iv.form = .arith m .dynamic k lw op → Memory.wf s.mem = true →
    s.count.toNat ≤ 2 ^ lw → arrayCheck op k s = .ok → dynamicCheck k (2 ^ lw) s = .ok →
    (∀ j, j < s.count.toNat → elementOperands op k j s = laneOperands op k (lane j) s) →
    exec ia s = .next t → exec iv s = .next u →
    ∀ j, j < s.count.toNat →
      readElement k t.mem (elementAddr k s.dst j) = readElement k u.mem (elementAddr k s.dst j)

/-! Component commands. -/

/-- R144, R140 (the 10 `prim::twosum…` commands): lane by lane `RES` takes `sigma` and `RESX` takes `tau` of
`twosum`; lanes from `W` on, the streams, `CTRL`, memory and every other field keep their value. -/
def Obligations.TwosumResult : Prop :=
  ∀ (i : Instr) (k : Kind) (lw : Nat) (s : State), i.form = .prim k lw .twosum →
    exec i s = .next { s with
      res := Vector.ofFn fun j =>
        if j.val < 2 ^ lw then (twosum k (laneOf k s.opa[j]) (laneOf k s.opb[j])).sigma.setWidth 64 else s.res[j]
      resx := Vector.ofFn fun j =>
        if j.val < 2 ^ lw then (twosum k (laneOf k s.opa[j]) (laneOf k s.opb[j])).tau.setWidth 64 else s.resx[j]
      err := .ok }

/-- R145, R142 (the 10 `prim::twoprod…` commands): as `twosum`, with `twoprod`. -/
def Obligations.TwoprodResult : Prop :=
  ∀ (i : Instr) (k : Kind) (lw : Nat) (s : State), i.form = .prim k lw .twoprod →
    exec i s = .next { s with
      res := Vector.ofFn fun j =>
        if j.val < 2 ^ lw then (twoprod k (laneOf k s.opa[j]) (laneOf k s.opb[j])).sigma.setWidth 64 else s.res[j]
      resx := Vector.ofFn fun j =>
        if j.val < 2 ^ lw then (twoprod k (laneOf k s.opa[j]) (laneOf k s.opb[j])).tau.setWidth 64 else s.resx[j]
      err := .ok }

/-- R155, R150 (the 10 `prim::srround…` commands): lane by lane `RES` takes `sr_round` of `OPA`, `OPB`, `OPC`;
nothing is drawn; `RESX` and every other field keep their value. -/
def Obligations.SrroundResult : Prop :=
  ∀ (i : Instr) (k : Kind) (lw : Nat) (s : State), i.form = .prim k lw .srround →
    exec i s = .next { s with
      res := Vector.ofFn fun j =>
        if j.val < 2 ^ lw then
          (srRound k (laneOf k s.opa[j]) (laneOf k s.opb[j]) (laneOf k s.opc[j])).setWidth 64
        else s.res[j]
      err := .ok }

/-- R156, R153 (the 10 `prim::udround…` commands): lane by lane `RES` takes `ud_round` of `OPA`; a lane whose
operand is no number leaves its stream alone; every other field keeps its value. -/
def Obligations.UdroundResult : Prop :=
  ∀ (i : Instr) (k : Kind) (lw : Nat) (s : State), i.form = .prim k lw .udround →
    exec i s = .next (lanesToRes (2 ^ lw) (fun j => udRound k (laneOf k s.opa[lane j])) s)

/-! Random-stream commands. -/

/-- R178, R174: `rng::seed` replaces all streams by `init_streams(SEEDARG, STREAMARG)`, sets
`CTRL.RNG_INIT`, responds `OK`, and ignores and keeps every other field. -/
def Obligations.SeedResult : Prop :=
  ∀ s : State, exec .rngSeed s = .next { s with
    streams := initStreams s.params.prng s.seedArg s.streamArg, rngInit := true, err := .ok }

/-- R273: `rng::seed` leaves `S` and `CTRL.RNG_INIT` exactly as lazy initialisation with the same seed as
override and the same index as `TID` would. -/
def Obligations.SeedEqualsLazyInitialisation : Prop :=
  ∀ s t : State, s.rngInit = false → s.seedOvrEn = true → s.seedOvr = s.seedArg → s.tid = s.streamArg →
    exec .rngSeed s = .next t → t.streams = (lazyInit s).streams ∧ t.rngInit = (lazyInit s).rngInit

/-- R174: stream 0 starts `idx` long jumps after the seeded state, stream `i + 1` one jump after stream
`i`. -/
def Obligations.InitStreamsSpacing : Prop :=
  ∀ (p : Prng) (seed : Word) (idx : BitVec 16),
    (initStreams p seed idx)[0] = repeated (ljump p) idx.toNat (seedState p seed) ∧
    ∀ (j : Nat) (h : j + 1 < 16), (initStreams p seed idx)[j + 1] = jump p (initStreams p seed idx)[j]

/-- R175: lazy initialisation does nothing when `CTRL.RNG_INIT` is set; otherwise it fills all streams from
`SEEDOVR` when the override is enabled, else from a sample of `ENV_SEED`, with the index `TID`, and sets
`CTRL.RNG_INIT`; it writes nothing else (the counter of samples apart).
The counter the samples of `ENV_SEED` are numbered by is the model's choice (log 7). -/
def Obligations.LazyInitialisation : Prop :=
  ∀ s : State,
    (s.rngInit = true → lazyInit s = s) ∧
    (s.rngInit = false → s.seedOvrEn = true →
      lazyInit s = { s with streams := initStreams s.params.prng s.seedOvr s.tid, rngInit := true }) ∧
    (s.rngInit = false → s.seedOvrEn = false →
      lazyInit s = { s with
        streams := initStreams s.params.prng (Config.envSeed s.envSamples) s.tid
        rngInit := true
        envSamples := s.envSamples + 1 })

/-- R179 (the 5 `rng::next…` commands): lane by lane `RES` takes the whole raw draw of the lane's stream,
which advances once; every other field keeps its value (lazy initialisation apart). -/
def Obligations.NextResult : Prop :=
  ∀ (i : Instr) (k : Kind) (lw : Nat) (s : State), i.form = .rng .next k lw →
    exec i s = .next { lazyInit s with
      res := Vector.ofFn fun j => if j.val < 2 ^ lw then out s.params.prng (lazyInit s).streams[j] else s.res[j]
      streams := Vector.ofFn fun j =>
        if j.val < 2 ^ lw then advance s.params.prng (lazyInit s).streams[j] else (lazyInit s).streams[j]
      err := .ok }

/-- R180, R177 (the 10 `rng::uniform…` commands): as `rng::next`, each lane with the uniform value of its
raw draw, zero-extended. -/
def Obligations.UniformResult : Prop :=
  ∀ (i : Instr) (k : Kind) (lw : Nat) (s : State), i.form = .rng .uniform k lw →
    exec i s = .next { lazyInit s with
      res := Vector.ofFn fun j =>
        if j.val < 2 ^ lw then (uniform k (out s.params.prng (lazyInit s).streams[j])).setWidth 64 else s.res[j]
      streams := Vector.ofFn fun j =>
        if j.val < 2 ^ lw then advance s.params.prng (lazyInit s).streams[j] else (lazyInit s).streams[j]
      err := .ok }

/-- R181 (the 5 `rng::jump…` commands): after lazy initialisation the first `W` streams jump; `RES` and every
other field keep their value. -/
def Obligations.JumpResult : Prop :=
  ∀ (i : Instr) (k : Kind) (lw : Nat) (s : State), i.form = .rng .jump k lw →
    exec i s = .next { lazyInit s with
      streams := Vector.ofFn fun j =>
        if j.val < 2 ^ lw then jump s.params.prng (lazyInit s).streams[j] else (lazyInit s).streams[j]
      err := .ok }

/-- R182 (the 5 `rng::ljump…` commands): as `rng::jump` with `LongJump()`. -/
def Obligations.LjumpResult : Prop :=
  ∀ (i : Instr) (k : Kind) (lw : Nat) (s : State), i.form = .rng .ljump k lw →
    exec i s = .next { lazyInit s with
      streams := Vector.ofFn fun j =>
        if j.val < 2 ^ lw then ljump s.params.prng (lazyInit s).streams[j] else (lazyInit s).streams[j]
      err := .ok }

/-- R169, R170: with the default engine a jump commutes with the recurrence, for every jump polynomial. -/
def Obligations.JumpsCommuteWithAdvance : Prop :=
  ∀ (p : Prng) (poly s : Stream), p.engine = .xoshiro256 →
    polyJump p poly (advance p s) = advance p (polyJump p poly s)

/-- R173, R284: with the default engine and scrambler the all-zero stream yields 0 and stays all-zero under
a draw and under both jumps. -/
def Obligations.AllZeroStreamIsStuck : Prop :=
  ∀ p : Prng, p.engine = .xoshiro256 → p.scrambler = .plusPlus →
    out p zeroStream = 0#64 ∧ advance p zeroStream = zeroStream ∧ jump p zeroStream = zeroStream ∧
    ljump p zeroStream = zeroStream

/-- R173: with the default mixer no seed gives the all-zero state. -/
def Obligations.SeedingNeverGivesZero : Prop :=
  ∀ (p : Prng) (seed : Word), p.mixer = .splitMix64 → seedState p seed ≠ zeroStream

/-- R177: the uniform value is exactly the top `P` bits of the raw draw times `2^-P` (`P` is 24 or 53), a
finite value in `[0, 1)`. -/
def Obligations.UniformIsExact : Prop :=
  ∀ (k : Kind) (r : Word),
    let p := match k with
      | .f32 => 24
      | .f64 => 53
    isFinite k (uniform k r) = true ∧
    val k (uniform k r) = ((r.toNat / 2 ^ (64 - p) : Nat) : ℚ) / (2 : ℚ) ^ p ∧
    0 ≤ val k (uniform k r) ∧ val k (uniform k r) < 1

/-! System commands and the dispatch state. -/

/-- R230: the word 0x50000000 is `sys::nop`, which sets `STATUS.ERR` to 0 and changes nothing else. -/
def Obligations.NopResult : Prop :=
  decode 0x50000000#64 = .ok .sysNop ∧ ∀ s : State, exec .sysNop s = .next { s with err := .ok }

/-- R231, R226: the word 0x50010000 is `sys::probe`, which binds an unselected instance to its native lane
counts; on a bound one it changes nothing but `STATUS.ERR`. After reset with the default parameters `STATUS`
reads 0x0000, and after `sys::probe` 0x3402. -/
def Obligations.ProbeResult : Prop :=
  decode 0x50010000#64 = .ok .sysProbe ∧
  (∀ s : State,
    (s.dstate = .unselected → exec .sysProbe s = .next { s with
      dstate := .bound, bound32 := s.params.hwLanes32.log2, bound64 := s.params.hwLanes64.log2, err := .ok }) ∧
    (s.dstate = .bound → exec .sysProbe s = .next { s with err := .ok })) ∧
  readRegister 1 State.reset = 0x0000#64 ∧
  ∀ t, exec .sysProbe State.reset = .next t → readRegister 1 t = 0x3402#64

/-- R226, R227: vector, array and `sys::probe` commands that respond `OK` leave the instance `BOUND` when it
was `UNSELECTED`; every other command leaves the dispatch state and the bound fields as they were. -/
def Obligations.WhichCommandsProbe : Prop :=
  ∀ (i : Instr) (s t : State), exec i s = .next t →
    (t.dstate = if probes i.form ∧ t.err = .ok ∧ s.dstate = .unselected then .bound else s.dstate) ∧
    ((probes i.form = false ∨ t.err ≠ .ok ∨ s.dstate ≠ .unselected) →
      t.bound32 = s.bound32 ∧ t.bound64 = s.bound64)

/-- R226: `BOUND` is terminal: no step but a reset leaves it.
The host's program as a field of the state is the model's choice (log 1). -/
def Obligations.BoundIsTerminal : Prop :=
  ∀ s t : State, s.dstate = .bound → s.pending.head? ≠ some .resetBlock → step s = .next t → t.dstate = .bound

/-! The whole machine. -/

/-- R29, R60, R226: every step keeps memory in canonical form and the dispatch state legal.
Memory as a list in canonical form is the model's choice (log 8). -/
def Obligations.StepKeepsInvariant : Prop :=
  ∀ s t : State, s.Inv → step s = .next t → t.Inv

/-- The invariant holds right after reset, for every implementation.
Memory as a list in canonical form is the model's choice (log 8). -/
def Obligations.ResetHasInvariant : Prop :=
  State.reset.Inv ∧ ∀ (p : Params) (n : Nat), (State.resetOf p n).Inv

/-- R37, R42: no step changes the implementation parameters, so `HWCFG` reads the same for ever.
The parameters as a field of the state are the model's choice (log 5). -/
def Obligations.ParametersNeverChange : Prop :=
  ∀ s t : State, step s = .next t → t.params = s.params ∧ readRegister 12 t = readRegister 12 s

/-- R40, R271: after reset `STATUS` and `CTRL` read 0, `TID` holds `TID_RESET` and nothing is bound, for
every implementation; R270: a reset touches no byte of data memory.
Reset as one of the host's actions is the model's choice (log 9). -/
def Obligations.ResetValues : Prop :=
  (∀ (p : Params) (n : Nat),
    readRegister 1 (State.resetOf p n) = 0#64 ∧ readRegister 2 (State.resetOf p n) = 0#64 ∧
    (State.resetOf p n).tid = p.tidReset ∧ (State.resetOf p n).dstate = .unselected ∧
    (State.resetOf p n).err = .ok) ∧
  ∀ (s : State) (rest : List HostAction), s.pending = .resetBlock :: rest →
    ∃ t, step s = .next t ∧ t.mem = s.mem ∧ t.params = s.params ∧ t.pending = rest ∧
      readRegister 1 t = 0#64 ∧ readRegister 2 t = 0#64 ∧ t.tid = s.params.tidReset

/-! The register interface. -/

/-- R39, R27: a host read returns the register's value to the host and changes nothing in the block.
The list that keeps the returned values is the model's choice (log 1, 2). -/
def Obligations.HostReadChangesNothing : Prop :=
  ∀ (s : State) (n : Nat) (rest : List HostAction), s.pending = .readReg n :: rest →
    step s = .next { s with pending := rest, readback := readRegister n s :: s.readback }

/-- R27, R22, R30, R34, R35, R39: a register read after a host write returns the written value in the
writable bits and 0 in the others (64 bits for the operand registers, the streams and the 64-bit control
registers, 16 for `TID` and `STREAMARG`, 3 for `CTRL`); a read-only or reserved number keeps what it read
before. -/
def Obligations.HostWriteThenRead : Prop :=
  ∀ (n : Nat) (v : Word) (s : State), n ≠ 0 →
    readRegister n (writeRegister n v s) =
      if n = 2 then v &&& 7#64
      else if n = 4 ∨ n = 6 then v &&& 0xFFFF#64
      else if n = 3 ∨ n = 5 ∨ (7 ≤ n ∧ n ≤ 11) ∨ (16 ≤ n ∧ n < 64) ∨ (128 ≤ n ∧ n < 192) then v
      else readRegister n s

/-- R27, R39: a host write to one register number changes what no other number reads, and touches neither
memory nor the parameters. -/
def Obligations.HostWriteLeavesOtherRegisters : Prop :=
  ∀ (n n' : Nat) (v : Word) (s : State), n ≠ 0 → n' ≠ n →
    readRegister n' (writeRegister n v s) = readRegister n' s ∧
    (writeRegister n v s).mem = s.mem ∧ (writeRegister n v s).params = s.params

/-- R29, R251, R281: the bits of `STATUS`: `DSTATE` 1..0, `BUSY` 2 reading 0, `ERR` 7..4 with the codes of
R251, `BOUND32` 10..8, `BOUND64` 14..12, every other bit 0. -/
def Obligations.StatusBits : Prop :=
  ∀ s : State,
    let w := readRegister 1 s
    w.extractLsb' 0 2 = s.dstate.code ∧ w.extractLsb' 2 2 = 0#2 ∧ w.extractLsb' 4 4 = s.err.code ∧
    w.extractLsb' 8 3 = s.bound32 ∧ w.extractLsb' 11 1 = 0#1 ∧ w.extractLsb' 12 3 = s.bound64 ∧
    w.extractLsb' 15 49 = 0#49

/-! Kernels and arithmetic. -/

/-- R190, R198 (c), (d), R205, R212 (d): when the gate fails a kernel returns the plain base operation's
result and draws nothing; when it passes an SR kernel draws once, a UD kernel exactly when the plain
result is a number. -/
def Obligations.KernelGate : Prop :=
  ∀ (m : Mode) (op : Op) (k : Kind) (x : Operands k),
    (gate op k x = false → kernel m op k x = .plain (baseOp op k x)) ∧
    (gate op k x = true → (kernel .sr op k x).draws = true) ∧
    (gate op k x = true → (kernel .ud op k x).draws = isNumber k (baseOp op k x)) ∧
    (gate op k x = true → isNumber k (baseOp op k x) = false → kernel .ud op k x = .plain (baseOp op k x))

/-- R191 to R197: when the gate passes, an SR kernel returns `sigma + sr_round(sigma, tau, z)` for the
uniform value `z` of its raw draw, with `(sigma, tau)` as the operation's rule gives them. -/
def Obligations.SrKernelValue : Prop :=
  ∀ (op : Op) (k : Kind) (x : Operands k) (r : Word), gate op k x = true →
    let finish := fun sigma tau => fadd k sigma (srRound k sigma tau (uniform k r))
    (kernel .sr op k x).value r =
      match op with
      | .add => finish (twosum k x.a x.b).sigma (twosum k x.a x.b).tau
      | .sub => finish (twosum k x.a (fneg k x.b)).sigma (twosum k x.a (fneg k x.b)).tau
      | .mul => finish (twoprod k x.a x.b).sigma (twoprod k x.a x.b).tau
      | .div =>
        let sigma := fdiv k x.a x.b
        finish sigma (fdiv k (ffma k (fneg k sigma) x.b x.a) x.b)
      | .sqrt =>
        let sigma := fsqrt k x.a
        finish sigma (fdiv k (ffma k (fneg k sigma) sigma x.a) (fmul k (two k) sigma))
      | .fma =>
        let p := twoprod k x.a x.b
        let u := twosum k x.c p.sigma
        let sigma := ffma k x.a x.b x.c
        finish sigma (fadd k (fsub k u.sigma sigma) (fadd k p.tau u.tau))

/-- R153, R154, R205, R212 (a), (b): a UD kernel that draws returns the plain result's pattern plus one when
bit 63 of the raw draw is 1 and minus one when it is 0; the step never changes the sign bit, never wraps
and never gives a NaN. -/
def Obligations.UdKernelStep : Prop :=
  ∀ (op : Op) (k : Kind) (x : Operands k) (r : Word), (kernel .ud op k x).draws = true →
    let h := baseOp op k x
    let y := (kernel .ud op k x).value r
    (r.msb = true → y.toNat = h.toNat + 1) ∧ (r.msb = false → y.toNat + 1 = h.toNat) ∧
    sign k y = sign k h ∧ isNan k y = false

/-- R112, R113: the conditions of the five classes, every pattern in exactly one of them; finite is zero,
subnormal or normal; the bitmask test accepts the subnormal and the normal patterns. -/
def Obligations.PatternClasses : Prop :=
  ∀ (k : Kind) (x : Pat k),
    (isZero k x = true ↔ expField k x = 0 ∧ mantField k x = 0) ∧
    (isSubnormal k x = true ↔ expField k x = 0 ∧ mantField k x ≠ 0) ∧
    (isNormal k x = true ↔ 1 ≤ expField k x ∧ expField k x ≤ expAll k - 1) ∧
    (isInf k x = true ↔ expField k x = expAll k ∧ mantField k x = 0) ∧
    (isNan k x = true ↔ expField k x = expAll k ∧ mantField k x ≠ 0) ∧
    [isZero k x, isSubnormal k x, isNormal k x, isInf k x, isNan k x].count true = 1 ∧
    isFinite k x = (isZero k x || isSubnormal k x || isNormal k x) ∧
    isNumber k x = (isSubnormal k x || isNormal k x) ∧
    isNumber k x = ((x &&& ~~~(signMask k)) != 0#k.width && (x &&& expMask k) != expMask k)

/-- R116: a finite `RN_K(v)` is nearest: no finite pattern's value is closer to `v`. -/
def Obligations.RoundingIsNearest : Prop :=
  ∀ (k : Kind) (v : ℚ) (zs : Bool), isFinite k (roundNearest k v zs) = true →
    ∀ x : Pat k, isFinite k x = true → |val k (roundNearest k v zs) - v| ≤ |val k x - v|

/-- R115, R116: rounding the value of a number gives the number back. -/
def Obligations.RoundingARepresentableValue : Prop :=
  ∀ (k : Kind) (x : Pat k) (zs : Bool), isNumber k x = true → roundNearest k (val k x) zs = x

/-- R118: for `EMIN - M <= n <= EMAX`, `pow2_K(n)` is the pattern whose value is exactly `2^n`:
`(n + BIAS) << M` from `EMIN` on, a single mantissa bit below. -/
def Obligations.PowersOfTwo : Prop :=
  ∀ (k : Kind) (n : ℤ), k.emin - k.mant ≤ n → n ≤ k.emax →
    isNumber k (pow2 k n) = true ∧ val k (pow2 k n) = (2 : ℚ) ^ n ∧
    (k.emin ≤ n → (pow2 k n).toNat = (n + k.bias).toNat * 2 ^ k.mant) ∧
    (n < k.emin → (pow2 k n).toNat = 2 ^ (n - (k.emin - k.mant)).toNat)

/-- R127: every base operation that returns a NaN returns the canonical one. -/
def Obligations.NanResultsAreCanonical : Prop :=
  ∀ (k : Kind) (a b c : Pat k),
    (isNan k (fadd k a b) = true → fadd k a b = canonNan k) ∧
    (isNan k (fsub k a b) = true → fsub k a b = canonNan k) ∧
    (isNan k (fmul k a b) = true → fmul k a b = canonNan k) ∧
    (isNan k (fdiv k a b) = true → fdiv k a b = canonNan k) ∧
    (isNan k (fsqrt k a) = true → fsqrt k a = canonNan k) ∧
    (isNan k (ffma k a b c) = true → ffma k a b c = canonNan k)

/-- R141 (b): `twosum(a, b)` and `twosum(b, a)` give the same pair for all finite operands. -/
def Obligations.TwosumIsOrderIndependent : Prop :=
  ∀ (k : Kind) (a b : Pat k), isFinite k a = true → isFinite k b = true → twosum k a b = twosum k b a

/-- R151: the exponent of step (3) of `sr_round` is `get_exponent(sigma) - 1` when the signs differ and
`|sigma|` is a power of two above `2^EMIN`, and `get_exponent(sigma)` in every other case. -/
def Obligations.PredecessorExponent : Prop :=
  ∀ (k : Kind) (sigma tau : Pat k), isNumber k sigma = true →
    srExponent k sigma tau =
      if sign k tau ≠ sign k sigma ∧ mantField k sigma = 0 ∧ 1 < expField k sigma then getExponent k sigma - 1
      else getExponent k sigma

/-- R152 (a), R198 (b): when the residual is a zero the kernel result has the value of `sigma` for every
uniform value, an infinite `sigma` is returned unchanged and a NaN one as the canonical NaN. -/
def Obligations.ExactResultsStay : Prop :=
  ∀ (k : Kind) (sigma tau z : Pat k), isZero k tau = true →
    (isNan k sigma = false → extVal k (srFinish k ⟨sigma, tau⟩ z) = extVal k sigma) ∧
    (isInf k sigma = true → srFinish k ⟨sigma, tau⟩ z = sigma) ∧
    (isNan k sigma = true → srFinish k ⟨sigma, tau⟩ z = canonNan k)

/-- R191, R198 (a): for a number `sigma` the kernel result has the value of `sigma` or of its neighbour on
the side of `tau`, the next pattern away from zero when the signs agree and towards zero when they
differ. -/
def Obligations.SrMovesAtMostOneUlp : Prop :=
  ∀ (k : Kind) (sigma tau z : Pat k), isNumber k sigma = true →
    let r := srFinish k ⟨sigma, tau⟩ z
    extVal k r = extVal k sigma ∨
    (sign k tau = sign k sigma ∧ extVal k r = extVal k (sigma + 1#k.width)) ∨
    (sign k tau ≠ sign k sigma ∧ extVal k r = extVal k (sigma - 1#k.width))

/-! Data memory. -/

/-- R62, R66: an element written to memory reads back as itself, its byte at the lowest address is the least
significant, and no byte outside it changes. -/
def Obligations.ElementRoundTrip : Prop :=
  ∀ (k : Kind) (m : Memory) (a : Nat) (v : Pat k), Memory.wf m = true → a + k.bytes ≤ 2 ^ 64 →
    readElement k (writeElement k m a v) a = v ∧
    (∀ i, i < k.bytes → Memory.read (writeElement k m a v) (a + i) = (v.extractLsb' (8 * i) 8)) ∧
    ∀ b, b < a ∨ a + k.bytes ≤ b → Memory.read (writeElement k m a v) b = Memory.read m b

/-- The model's choice (log 3), on R60: a host store to ordinary memory changes that byte and no other; at
any other address the step is refused by name. -/
def Obligations.HostStoreToMemory : Prop :=
  ∀ (s : State) (a : Word) (v : Byte) (rest : List HostAction), s.pending = .storeByte a v :: rest →
    Memory.wf s.mem = true →
    (memValid s.params a.toNat 1 = true → ∃ t, step s = .next t ∧ t = { s with pending := rest, mem := t.mem } ∧
      Memory.read t.mem a.toNat = v ∧ ∀ b, b ≠ a.toNat → Memory.read t.mem b = Memory.read s.mem b) ∧
    (memValid s.params a.toNat 1 = false → step s = .refused .hostAccessOutsideMemory)
end

