-- ==== Sys2Proof/Laws/Memory.lean ====
section
/-! SUPPORT. Data memory: reading after writing, and the canonical form is kept by every operation. -/

namespace Sys2Proof.Machine

/-- `Memory.above` as a statement about every listed pair. -/
theorem Memory.above_iff (a : Nat) (m : Memory) : Memory.above a m = true ↔ ∀ c ∈ m, a < c.1 := by
  simp [Memory.above]

/-- An address below every listed one reads as unlisted. -/
theorem Memory.read_of_above {a : Nat} {m : Memory} (h : ∀ c ∈ m, a < c.1) : Memory.read m a = unlistedByte := by
  induction m with
  | nil => rfl
  | cons c rest ih =>
    obtain ⟨b, x⟩ := c
    have hb : a < b := h (b, x) (by simp)
    have hne : a ≠ b := by omega
    simp only [Memory.read, if_neg hne]
    exact ih fun c hc => h c (by simp [hc])

/-- The canonical form of a non-empty list. -/
theorem Memory.wf_cons {a : Nat} {v : Byte} {rest : Memory} :
    Memory.wf ((a, v) :: rest) = true ↔
      a < 2 ^ 64 ∧ v ≠ unlistedByte ∧ (∀ c ∈ rest, a < c.1) ∧ Memory.wf rest = true := by
  simp [Memory.wf, Memory.above, and_assoc]

/-- Where the pairs of a written memory come from. -/
theorem Memory.mem_write {m : Memory} {a : Nat} {v : Byte} {c : Host.Cell} (h : c ∈ Memory.write m a v) :
    c ∈ m ∨ c.1 = a := by
  induction m with
  | nil =>
    simp only [Memory.write] at h
    split at h <;> simp_all
  | cons d rest ih =>
    obtain ⟨b, x⟩ := d
    simp only [Memory.write] at h
    split at h
    · split at h
      · exact .inl h
      · rcases List.mem_cons.mp h with h | h
        · exact .inr (by rw [h])
        · exact .inl h
    · split at h
      · split at h
        · exact .inl (by simp [h])
        · rcases List.mem_cons.mp h with h | h
          · exact .inr (by rw [h])
          · exact .inl (by simp [h])
      · rcases List.mem_cons.mp h with h | h
        · exact .inl (by simp [h])
        · rcases ih h with h | h
          · exact .inl (by simp [h])
          · exact .inr h

/-- Writing a byte keeps the canonical form. -/
theorem Memory.write_wf {m : Memory} {a : Nat} (v : Byte) (hm : Memory.wf m = true) (ha : a < 2 ^ 64) :
    Memory.wf (Memory.write m a v) = true := by
  induction m with
  | nil =>
    simp only [Memory.write]
    split
    · rfl
    · rename_i hv
      exact Memory.wf_cons.mpr ⟨ha, hv, by simp, rfl⟩
  | cons d rest ih =>
    obtain ⟨b, x⟩ := d
    obtain ⟨hb, hx, habove, hrest⟩ := Memory.wf_cons.mp hm
    simp only [Memory.write]
    split
    · rename_i hab
      split
      · exact hm
      · rename_i hv
        refine Memory.wf_cons.mpr ⟨ha, hv, ?_, hm⟩
        intro c hc
        rcases List.mem_cons.mp hc with rfl | hc
        · exact hab
        · exact Nat.lt_trans hab (habove c hc)
    · rename_i hab
      split
      · rename_i heq
        subst heq
        split
        · exact hrest
        · rename_i hv
          exact Memory.wf_cons.mpr ⟨ha, hv, habove, hrest⟩
      · rename_i hne
        refine Memory.wf_cons.mpr ⟨hb, hx, ?_, ih hrest⟩
        intro c hc
        rcases Memory.mem_write hc with hc | hc
        · exact habove c hc
        · omega

/-- Reading the byte just written. -/
theorem Memory.read_write_self {m : Memory} (a : Nat) (v : Byte) (hm : Memory.wf m = true) :
    Memory.read (Memory.write m a v) a = v := by
  induction m with
  | nil =>
    simp only [Memory.write]
    split
    · rename_i hv
      simp [Memory.read, hv]
    · simp [Memory.read]
  | cons d rest ih =>
    obtain ⟨b, x⟩ := d
    obtain ⟨hb, hx, habove, hrest⟩ := Memory.wf_cons.mp hm
    simp only [Memory.write]
    split
    · rename_i hab
      split
      · rename_i hv
        rw [hv]
        refine Memory.read_of_above ?_
        intro c hc
        rcases List.mem_cons.mp hc with rfl | hc
        · exact hab
        · exact Nat.lt_trans hab (habove c hc)
      · simp [Memory.read]
    · split
      · rename_i heq
        subst heq
        split
        · rename_i hv
          rw [hv]
          exact Memory.read_of_above habove
        · simp [Memory.read]
      · rename_i hne
        simp only [Memory.read, if_neg hne]
        exact ih hrest

/-- A write leaves every other address alone. -/
theorem Memory.read_write_ne {a b : Nat} (m : Memory) (v : Byte) (h : b ≠ a) :
    Memory.read (Memory.write m a v) b = Memory.read m b := by
  induction m with
  | nil =>
    simp only [Memory.write]
    split
    · rfl
    · simp [Memory.read, h]
  | cons d rest ih =>
    obtain ⟨c, x⟩ := d
    simp only [Memory.write]
    split
    · split
      · rfl
      · rw [Memory.read, if_neg h]
    · split
      · rename_i heq
        subst heq
        split <;> simp [Memory.read, h]
      · simp only [Memory.read, ih]

/-- Writing `n` bytes keeps the canonical form. -/
theorem writeNat_wf {m : Memory} {a n : Nat} (v : Nat) (hm : Memory.wf m = true) (ha : a + n ≤ 2 ^ 64) :
    Memory.wf (writeNat m a v n) = true := by
  induction n generalizing m a v with
  | zero => exact hm
  | succ n ih => exact ih _ (Memory.write_wf _ hm (by omega)) (by omega)

/-- Writing `n` bytes leaves every address outside them alone. -/
theorem read_writeNat_outside {a b n : Nat} (m : Memory) (v : Nat) (h : b < a ∨ a + n ≤ b) :
    Memory.read (writeNat m a v n) b = Memory.read m b := by
  induction n generalizing m a v with
  | zero => rfl
  | succ n ih =>
    rw [writeNat, ih _ _ (by omega), Memory.read_write_ne _ _ (by omega)]

/-- Byte `i` of a written number is bits `8i+7..8i` of it (R62). -/
theorem read_writeNat_inside {m : Memory} {a n i : Nat} (v : Nat) (hm : Memory.wf m = true)
    (ha : a + n ≤ 2 ^ 64) (hi : i < n) :
    Memory.read (writeNat m a v n) (a + i) = BitVec.ofNat 8 (v / 256 ^ i) := by
  induction n generalizing m a v i with
  | zero => omega
  | succ n ih =>
    have hw := Memory.write_wf (BitVec.ofNat 8 v) hm (show a < 2 ^ 64 by omega)
    rw [writeNat]
    rcases i with _ | i
    · rw [read_writeNat_outside _ _ (by omega), Nat.add_zero, Memory.read_write_self _ _ hm]
      simp
    · have := ih (v / 256) hw (a := a + 1) (i := i) (by omega) (by omega)
      rw [show a + (i + 1) = a + 1 + i by omega, this, Nat.div_div_eq_div_mul, Nat.pow_succ', Nat.mul_comm]

/-- The element size in bytes is the width over 8 (R62). -/
theorem bytes_mul_eight (k : Kind) : 8 * k.bytes = k.width := by cases k <;> rfl

/-- Storing an element keeps the canonical form. -/
theorem writeElement_wf (k : Kind) {m : Memory} {a : Nat} (v : Pat k) (hm : Memory.wf m = true)
    (ha : a + k.bytes ≤ 2 ^ 64) : Memory.wf (writeElement k m a v) = true :=
  writeNat_wf _ hm ha

/-- Storing an element leaves every address outside its bytes alone. -/
theorem read_writeElement_outside (k : Kind) {a b : Nat} (m : Memory) (v : Pat k)
    (h : b < a ∨ a + k.bytes ≤ b) : Memory.read (writeElement k m a v) b = Memory.read m b :=
  read_writeNat_outside _ _ h

/-- Reading a number depends on the bytes read only. -/
theorem readNat_congr {m m' : Memory} {a n : Nat}
    (h : ∀ i < n, Memory.read m (a + i) = Memory.read m' (a + i)) : readNat m a n = readNat m' a n := by
  induction n generalizing a with
  | zero => rfl
  | succ n ih =>
    have h0 := h 0 (by omega)
    rw [Nat.add_zero] at h0
    rw [readNat, readNat, h0, ih]
    intro i hi
    have := h (i + 1) (by omega)
    rwa [show a + (i + 1) = a + 1 + i by omega] at this

end Sys2Proof.Machine
end

