-- ==== Sys2Proof/Laws/State.lean ====
section
/-! SUPPORT. One lemma for each field of `State` and each named update, true by unfolding: what the update
writes, and that it leaves every other field alone. -/

namespace Sys2Proof.Machine

variable (s : State)

/-! `respond` -/

@[simp] theorem respond_opa (c : Response) : (respond c s).opa = s.opa := rfl
@[simp] theorem respond_opb (c : Response) : (respond c s).opb = s.opb := rfl
@[simp] theorem respond_opc (c : Response) : (respond c s).opc = s.opc := rfl
@[simp] theorem respond_res (c : Response) : (respond c s).res = s.res := rfl
@[simp] theorem respond_resx (c : Response) : (respond c s).resx = s.resx := rfl
@[simp] theorem respond_streams (c : Response) : (respond c s).streams = s.streams := rfl
@[simp] theorem respond_dstate (c : Response) : (respond c s).dstate = s.dstate := rfl
@[simp] theorem respond_err (c : Response) : (respond c s).err = c := rfl
@[simp] theorem respond_bound32 (c : Response) : (respond c s).bound32 = s.bound32 := rfl
@[simp] theorem respond_bound64 (c : Response) : (respond c s).bound64 = s.bound64 := rfl
@[simp] theorem respond_trace (c : Response) : (respond c s).trace = s.trace := rfl
@[simp] theorem respond_seedOvrEn (c : Response) : (respond c s).seedOvrEn = s.seedOvrEn := rfl
@[simp] theorem respond_rngInit (c : Response) : (respond c s).rngInit = s.rngInit := rfl
@[simp] theorem respond_seedOvr (c : Response) : (respond c s).seedOvr = s.seedOvr := rfl
@[simp] theorem respond_tid (c : Response) : (respond c s).tid = s.tid := rfl
@[simp] theorem respond_seedArg (c : Response) : (respond c s).seedArg = s.seedArg := rfl
@[simp] theorem respond_streamArg (c : Response) : (respond c s).streamArg = s.streamArg := rfl
@[simp] theorem respond_count (c : Response) : (respond c s).count = s.count := rfl
@[simp] theorem respond_srca (c : Response) : (respond c s).srca = s.srca := rfl
@[simp] theorem respond_srcb (c : Response) : (respond c s).srcb = s.srcb := rfl
@[simp] theorem respond_srcc (c : Response) : (respond c s).srcc = s.srcc := rfl
@[simp] theorem respond_dst (c : Response) : (respond c s).dst = s.dst := rfl
@[simp] theorem respond_mem (c : Response) : (respond c s).mem = s.mem := rfl
@[simp] theorem respond_params (c : Response) : (respond c s).params = s.params := rfl
@[simp] theorem respond_pending (c : Response) : (respond c s).pending = s.pending := rfl
@[simp] theorem respond_readback (c : Response) : (respond c s).readback = s.readback := rfl
@[simp] theorem respond_envSamples (c : Response) : (respond c s).envSamples = s.envSamples := rfl
@[simp] theorem respond_resets (c : Response) : (respond c s).resets = s.resets := rfl

/-! `setRes` -/

@[simp] theorem setRes_opa (i : Fin 16) (v : Word) : (setRes i v s).opa = s.opa := rfl
@[simp] theorem setRes_opb (i : Fin 16) (v : Word) : (setRes i v s).opb = s.opb := rfl
@[simp] theorem setRes_opc (i : Fin 16) (v : Word) : (setRes i v s).opc = s.opc := rfl
@[simp] theorem setRes_res (i : Fin 16) (v : Word) : (setRes i v s).res = s.res.set i v := rfl
@[simp] theorem setRes_resx (i : Fin 16) (v : Word) : (setRes i v s).resx = s.resx := rfl
@[simp] theorem setRes_streams (i : Fin 16) (v : Word) : (setRes i v s).streams = s.streams := rfl
@[simp] theorem setRes_dstate (i : Fin 16) (v : Word) : (setRes i v s).dstate = s.dstate := rfl
@[simp] theorem setRes_err (i : Fin 16) (v : Word) : (setRes i v s).err = s.err := rfl
@[simp] theorem setRes_bound32 (i : Fin 16) (v : Word) : (setRes i v s).bound32 = s.bound32 := rfl
@[simp] theorem setRes_bound64 (i : Fin 16) (v : Word) : (setRes i v s).bound64 = s.bound64 := rfl
@[simp] theorem setRes_trace (i : Fin 16) (v : Word) : (setRes i v s).trace = s.trace := rfl
@[simp] theorem setRes_seedOvrEn (i : Fin 16) (v : Word) : (setRes i v s).seedOvrEn = s.seedOvrEn := rfl
@[simp] theorem setRes_rngInit (i : Fin 16) (v : Word) : (setRes i v s).rngInit = s.rngInit := rfl
@[simp] theorem setRes_seedOvr (i : Fin 16) (v : Word) : (setRes i v s).seedOvr = s.seedOvr := rfl
@[simp] theorem setRes_tid (i : Fin 16) (v : Word) : (setRes i v s).tid = s.tid := rfl
@[simp] theorem setRes_seedArg (i : Fin 16) (v : Word) : (setRes i v s).seedArg = s.seedArg := rfl
@[simp] theorem setRes_streamArg (i : Fin 16) (v : Word) : (setRes i v s).streamArg = s.streamArg := rfl
@[simp] theorem setRes_count (i : Fin 16) (v : Word) : (setRes i v s).count = s.count := rfl
@[simp] theorem setRes_srca (i : Fin 16) (v : Word) : (setRes i v s).srca = s.srca := rfl
@[simp] theorem setRes_srcb (i : Fin 16) (v : Word) : (setRes i v s).srcb = s.srcb := rfl
@[simp] theorem setRes_srcc (i : Fin 16) (v : Word) : (setRes i v s).srcc = s.srcc := rfl
@[simp] theorem setRes_dst (i : Fin 16) (v : Word) : (setRes i v s).dst = s.dst := rfl
@[simp] theorem setRes_mem (i : Fin 16) (v : Word) : (setRes i v s).mem = s.mem := rfl
@[simp] theorem setRes_params (i : Fin 16) (v : Word) : (setRes i v s).params = s.params := rfl
@[simp] theorem setRes_pending (i : Fin 16) (v : Word) : (setRes i v s).pending = s.pending := rfl
@[simp] theorem setRes_readback (i : Fin 16) (v : Word) : (setRes i v s).readback = s.readback := rfl
@[simp] theorem setRes_envSamples (i : Fin 16) (v : Word) : (setRes i v s).envSamples = s.envSamples := rfl
@[simp] theorem setRes_resets (i : Fin 16) (v : Word) : (setRes i v s).resets = s.resets := rfl

/-! `setResx` -/

@[simp] theorem setResx_opa (i : Fin 16) (v : Word) : (setResx i v s).opa = s.opa := rfl
@[simp] theorem setResx_opb (i : Fin 16) (v : Word) : (setResx i v s).opb = s.opb := rfl
@[simp] theorem setResx_opc (i : Fin 16) (v : Word) : (setResx i v s).opc = s.opc := rfl
@[simp] theorem setResx_res (i : Fin 16) (v : Word) : (setResx i v s).res = s.res := rfl
@[simp] theorem setResx_resx (i : Fin 16) (v : Word) : (setResx i v s).resx = s.resx.set i v := rfl
@[simp] theorem setResx_streams (i : Fin 16) (v : Word) : (setResx i v s).streams = s.streams := rfl
@[simp] theorem setResx_dstate (i : Fin 16) (v : Word) : (setResx i v s).dstate = s.dstate := rfl
@[simp] theorem setResx_err (i : Fin 16) (v : Word) : (setResx i v s).err = s.err := rfl
@[simp] theorem setResx_bound32 (i : Fin 16) (v : Word) : (setResx i v s).bound32 = s.bound32 := rfl
@[simp] theorem setResx_bound64 (i : Fin 16) (v : Word) : (setResx i v s).bound64 = s.bound64 := rfl
@[simp] theorem setResx_trace (i : Fin 16) (v : Word) : (setResx i v s).trace = s.trace := rfl
@[simp] theorem setResx_seedOvrEn (i : Fin 16) (v : Word) : (setResx i v s).seedOvrEn = s.seedOvrEn := rfl
@[simp] theorem setResx_rngInit (i : Fin 16) (v : Word) : (setResx i v s).rngInit = s.rngInit := rfl
@[simp] theorem setResx_seedOvr (i : Fin 16) (v : Word) : (setResx i v s).seedOvr = s.seedOvr := rfl
@[simp] theorem setResx_tid (i : Fin 16) (v : Word) : (setResx i v s).tid = s.tid := rfl
@[simp] theorem setResx_seedArg (i : Fin 16) (v : Word) : (setResx i v s).seedArg = s.seedArg := rfl
@[simp] theorem setResx_streamArg (i : Fin 16) (v : Word) : (setResx i v s).streamArg = s.streamArg := rfl
@[simp] theorem setResx_count (i : Fin 16) (v : Word) : (setResx i v s).count = s.count := rfl
@[simp] theorem setResx_srca (i : Fin 16) (v : Word) : (setResx i v s).srca = s.srca := rfl
@[simp] theorem setResx_srcb (i : Fin 16) (v : Word) : (setResx i v s).srcb = s.srcb := rfl
@[simp] theorem setResx_srcc (i : Fin 16) (v : Word) : (setResx i v s).srcc = s.srcc := rfl
@[simp] theorem setResx_dst (i : Fin 16) (v : Word) : (setResx i v s).dst = s.dst := rfl
@[simp] theorem setResx_mem (i : Fin 16) (v : Word) : (setResx i v s).mem = s.mem := rfl
@[simp] theorem setResx_params (i : Fin 16) (v : Word) : (setResx i v s).params = s.params := rfl
@[simp] theorem setResx_pending (i : Fin 16) (v : Word) : (setResx i v s).pending = s.pending := rfl
@[simp] theorem setResx_readback (i : Fin 16) (v : Word) : (setResx i v s).readback = s.readback := rfl
@[simp] theorem setResx_envSamples (i : Fin 16) (v : Word) : (setResx i v s).envSamples = s.envSamples := rfl
@[simp] theorem setResx_resets (i : Fin 16) (v : Word) : (setResx i v s).resets = s.resets := rfl

/-! `setStream` -/

@[simp] theorem setStream_opa (i : Fin 16) (v : Stream) : (setStream i v s).opa = s.opa := rfl
@[simp] theorem setStream_opb (i : Fin 16) (v : Stream) : (setStream i v s).opb = s.opb := rfl
@[simp] theorem setStream_opc (i : Fin 16) (v : Stream) : (setStream i v s).opc = s.opc := rfl
@[simp] theorem setStream_res (i : Fin 16) (v : Stream) : (setStream i v s).res = s.res := rfl
@[simp] theorem setStream_resx (i : Fin 16) (v : Stream) : (setStream i v s).resx = s.resx := rfl
@[simp] theorem setStream_streams (i : Fin 16) (v : Stream) : (setStream i v s).streams = s.streams.set i v := rfl
@[simp] theorem setStream_dstate (i : Fin 16) (v : Stream) : (setStream i v s).dstate = s.dstate := rfl
@[simp] theorem setStream_err (i : Fin 16) (v : Stream) : (setStream i v s).err = s.err := rfl
@[simp] theorem setStream_bound32 (i : Fin 16) (v : Stream) : (setStream i v s).bound32 = s.bound32 := rfl
@[simp] theorem setStream_bound64 (i : Fin 16) (v : Stream) : (setStream i v s).bound64 = s.bound64 := rfl
@[simp] theorem setStream_trace (i : Fin 16) (v : Stream) : (setStream i v s).trace = s.trace := rfl
@[simp] theorem setStream_seedOvrEn (i : Fin 16) (v : Stream) : (setStream i v s).seedOvrEn = s.seedOvrEn := rfl
@[simp] theorem setStream_rngInit (i : Fin 16) (v : Stream) : (setStream i v s).rngInit = s.rngInit := rfl
@[simp] theorem setStream_seedOvr (i : Fin 16) (v : Stream) : (setStream i v s).seedOvr = s.seedOvr := rfl
@[simp] theorem setStream_tid (i : Fin 16) (v : Stream) : (setStream i v s).tid = s.tid := rfl
@[simp] theorem setStream_seedArg (i : Fin 16) (v : Stream) : (setStream i v s).seedArg = s.seedArg := rfl
@[simp] theorem setStream_streamArg (i : Fin 16) (v : Stream) : (setStream i v s).streamArg = s.streamArg := rfl
@[simp] theorem setStream_count (i : Fin 16) (v : Stream) : (setStream i v s).count = s.count := rfl
@[simp] theorem setStream_srca (i : Fin 16) (v : Stream) : (setStream i v s).srca = s.srca := rfl
@[simp] theorem setStream_srcb (i : Fin 16) (v : Stream) : (setStream i v s).srcb = s.srcb := rfl
@[simp] theorem setStream_srcc (i : Fin 16) (v : Stream) : (setStream i v s).srcc = s.srcc := rfl
@[simp] theorem setStream_dst (i : Fin 16) (v : Stream) : (setStream i v s).dst = s.dst := rfl
@[simp] theorem setStream_mem (i : Fin 16) (v : Stream) : (setStream i v s).mem = s.mem := rfl
@[simp] theorem setStream_params (i : Fin 16) (v : Stream) : (setStream i v s).params = s.params := rfl
@[simp] theorem setStream_pending (i : Fin 16) (v : Stream) : (setStream i v s).pending = s.pending := rfl
@[simp] theorem setStream_readback (i : Fin 16) (v : Stream) : (setStream i v s).readback = s.readback := rfl
@[simp] theorem setStream_envSamples (i : Fin 16) (v : Stream) : (setStream i v s).envSamples = s.envSamples := rfl
@[simp] theorem setStream_resets (i : Fin 16) (v : Stream) : (setStream i v s).resets = s.resets := rfl

/-! `storeElement` -/

@[simp] theorem storeElement_opa (k : Kind) (a : Nat) (v : Pat k) : (storeElement k a v s).opa = s.opa := rfl
@[simp] theorem storeElement_opb (k : Kind) (a : Nat) (v : Pat k) : (storeElement k a v s).opb = s.opb := rfl
@[simp] theorem storeElement_opc (k : Kind) (a : Nat) (v : Pat k) : (storeElement k a v s).opc = s.opc := rfl
@[simp] theorem storeElement_res (k : Kind) (a : Nat) (v : Pat k) : (storeElement k a v s).res = s.res := rfl
@[simp] theorem storeElement_resx (k : Kind) (a : Nat) (v : Pat k) : (storeElement k a v s).resx = s.resx := rfl
@[simp] theorem storeElement_streams (k : Kind) (a : Nat) (v : Pat k) : (storeElement k a v s).streams = s.streams := rfl
@[simp] theorem storeElement_dstate (k : Kind) (a : Nat) (v : Pat k) : (storeElement k a v s).dstate = s.dstate := rfl
@[simp] theorem storeElement_err (k : Kind) (a : Nat) (v : Pat k) : (storeElement k a v s).err = s.err := rfl
@[simp] theorem storeElement_bound32 (k : Kind) (a : Nat) (v : Pat k) : (storeElement k a v s).bound32 = s.bound32 := rfl
@[simp] theorem storeElement_bound64 (k : Kind) (a : Nat) (v : Pat k) : (storeElement k a v s).bound64 = s.bound64 := rfl
@[simp] theorem storeElement_trace (k : Kind) (a : Nat) (v : Pat k) : (storeElement k a v s).trace = s.trace := rfl
@[simp] theorem storeElement_seedOvrEn (k : Kind) (a : Nat) (v : Pat k) : (storeElement k a v s).seedOvrEn = s.seedOvrEn := rfl
@[simp] theorem storeElement_rngInit (k : Kind) (a : Nat) (v : Pat k) : (storeElement k a v s).rngInit = s.rngInit := rfl
@[simp] theorem storeElement_seedOvr (k : Kind) (a : Nat) (v : Pat k) : (storeElement k a v s).seedOvr = s.seedOvr := rfl
@[simp] theorem storeElement_tid (k : Kind) (a : Nat) (v : Pat k) : (storeElement k a v s).tid = s.tid := rfl
@[simp] theorem storeElement_seedArg (k : Kind) (a : Nat) (v : Pat k) : (storeElement k a v s).seedArg = s.seedArg := rfl
@[simp] theorem storeElement_streamArg (k : Kind) (a : Nat) (v : Pat k) : (storeElement k a v s).streamArg = s.streamArg := rfl
@[simp] theorem storeElement_count (k : Kind) (a : Nat) (v : Pat k) : (storeElement k a v s).count = s.count := rfl
@[simp] theorem storeElement_srca (k : Kind) (a : Nat) (v : Pat k) : (storeElement k a v s).srca = s.srca := rfl
@[simp] theorem storeElement_srcb (k : Kind) (a : Nat) (v : Pat k) : (storeElement k a v s).srcb = s.srcb := rfl
@[simp] theorem storeElement_srcc (k : Kind) (a : Nat) (v : Pat k) : (storeElement k a v s).srcc = s.srcc := rfl
@[simp] theorem storeElement_dst (k : Kind) (a : Nat) (v : Pat k) : (storeElement k a v s).dst = s.dst := rfl
@[simp] theorem storeElement_mem (k : Kind) (a : Nat) (v : Pat k) : (storeElement k a v s).mem = writeElement k s.mem a v := rfl
@[simp] theorem storeElement_params (k : Kind) (a : Nat) (v : Pat k) : (storeElement k a v s).params = s.params := rfl
@[simp] theorem storeElement_pending (k : Kind) (a : Nat) (v : Pat k) : (storeElement k a v s).pending = s.pending := rfl
@[simp] theorem storeElement_readback (k : Kind) (a : Nat) (v : Pat k) : (storeElement k a v s).readback = s.readback := rfl
@[simp] theorem storeElement_envSamples (k : Kind) (a : Nat) (v : Pat k) : (storeElement k a v s).envSamples = s.envSamples := rfl
@[simp] theorem storeElement_resets (k : Kind) (a : Nat) (v : Pat k) : (storeElement k a v s).resets = s.resets := rfl

/-! `seedAll` -/

@[simp] theorem seedAll_opa (seed : Word) (idx : BitVec 16) : (seedAll seed idx s).opa = s.opa := rfl
@[simp] theorem seedAll_opb (seed : Word) (idx : BitVec 16) : (seedAll seed idx s).opb = s.opb := rfl
@[simp] theorem seedAll_opc (seed : Word) (idx : BitVec 16) : (seedAll seed idx s).opc = s.opc := rfl
@[simp] theorem seedAll_res (seed : Word) (idx : BitVec 16) : (seedAll seed idx s).res = s.res := rfl
@[simp] theorem seedAll_resx (seed : Word) (idx : BitVec 16) : (seedAll seed idx s).resx = s.resx := rfl
@[simp] theorem seedAll_streams (seed : Word) (idx : BitVec 16) : (seedAll seed idx s).streams = initStreams s.params.prng seed idx := rfl
@[simp] theorem seedAll_dstate (seed : Word) (idx : BitVec 16) : (seedAll seed idx s).dstate = s.dstate := rfl
@[simp] theorem seedAll_err (seed : Word) (idx : BitVec 16) : (seedAll seed idx s).err = s.err := rfl
@[simp] theorem seedAll_bound32 (seed : Word) (idx : BitVec 16) : (seedAll seed idx s).bound32 = s.bound32 := rfl
@[simp] theorem seedAll_bound64 (seed : Word) (idx : BitVec 16) : (seedAll seed idx s).bound64 = s.bound64 := rfl
@[simp] theorem seedAll_trace (seed : Word) (idx : BitVec 16) : (seedAll seed idx s).trace = s.trace := rfl
@[simp] theorem seedAll_seedOvrEn (seed : Word) (idx : BitVec 16) : (seedAll seed idx s).seedOvrEn = s.seedOvrEn := rfl
@[simp] theorem seedAll_rngInit (seed : Word) (idx : BitVec 16) : (seedAll seed idx s).rngInit = true := rfl
@[simp] theorem seedAll_seedOvr (seed : Word) (idx : BitVec 16) : (seedAll seed idx s).seedOvr = s.seedOvr := rfl
@[simp] theorem seedAll_tid (seed : Word) (idx : BitVec 16) : (seedAll seed idx s).tid = s.tid := rfl
@[simp] theorem seedAll_seedArg (seed : Word) (idx : BitVec 16) : (seedAll seed idx s).seedArg = s.seedArg := rfl
@[simp] theorem seedAll_streamArg (seed : Word) (idx : BitVec 16) : (seedAll seed idx s).streamArg = s.streamArg := rfl
@[simp] theorem seedAll_count (seed : Word) (idx : BitVec 16) : (seedAll seed idx s).count = s.count := rfl
@[simp] theorem seedAll_srca (seed : Word) (idx : BitVec 16) : (seedAll seed idx s).srca = s.srca := rfl
@[simp] theorem seedAll_srcb (seed : Word) (idx : BitVec 16) : (seedAll seed idx s).srcb = s.srcb := rfl
@[simp] theorem seedAll_srcc (seed : Word) (idx : BitVec 16) : (seedAll seed idx s).srcc = s.srcc := rfl
@[simp] theorem seedAll_dst (seed : Word) (idx : BitVec 16) : (seedAll seed idx s).dst = s.dst := rfl
@[simp] theorem seedAll_mem (seed : Word) (idx : BitVec 16) : (seedAll seed idx s).mem = s.mem := rfl
@[simp] theorem seedAll_params (seed : Word) (idx : BitVec 16) : (seedAll seed idx s).params = s.params := rfl
@[simp] theorem seedAll_pending (seed : Word) (idx : BitVec 16) : (seedAll seed idx s).pending = s.pending := rfl
@[simp] theorem seedAll_readback (seed : Word) (idx : BitVec 16) : (seedAll seed idx s).readback = s.readback := rfl
@[simp] theorem seedAll_envSamples (seed : Word) (idx : BitVec 16) : (seedAll seed idx s).envSamples = s.envSamples := rfl
@[simp] theorem seedAll_resets (seed : Word) (idx : BitVec 16) : (seedAll seed idx s).resets = s.resets := rfl

end Sys2Proof.Machine
end

