-- ==== Sys2Proof/Laws/Ops.lean ====
section
/-! SUPPORT. What each shared operation can do, said once: the provers cite these and do not unfold the
operations. -/

namespace Sys2Proof.Machine

/-- Every command completes with the effect of its form. -/
theorem exec_eq_effect (i : Instr) (s : State) : exec i s = .next (formEffect i.form s) := by
  cases i <;> rfl

/-- Every command is well formed (R84 to R88). -/
theorem instr_wellFormed (i : Instr) : i.wellFormed = true := by
  cases i <;> rfl

/-- The lane count of a vector command lies in 1..4 as a logarithm, that of a scalar command is 0 (R84). -/
theorem arith_shape {i : Instr} {m : Mode} {flv : Flavor} {k : Kind} {lw : Nat} {op : Op}
    (h : i.form = .arith m flv k lw op) : arithShapeOk flv lw = true := by
  have := instr_wellFormed i
  rwa [Instr.wellFormed, h] at this

/-- What `hwcfg` tells the probe about the native lane counts (R37, R226). -/
theorem hwcfg_lanes (p : Params) :
    (hwcfg p).extractLsb' 0 3 = p.hwLanes32.log2 ∧ (hwcfg p).extractLsb' 4 3 = p.hwLanes64.log2 := by
  unfold hwcfg
  cases p.hwLanes32 <;> cases p.hwLanes64 <;> decide

/-- `probe_and_bind` (R226): it binds an unselected instance and leaves every other one alone. -/
theorem probeAndBind_eq (s : State) :
    probeAndBind s =
      if s.dstate = .unselected then
        { s with dstate := .bound, bound32 := s.params.hwLanes32.log2, bound64 := s.params.hwLanes64.log2 }
      else s := by
  simp only [probeAndBind, (hwcfg_lanes s.params).1, (hwcfg_lanes s.params).2]

/-- `probe_and_bind` changes the dispatch state and the bound fields only. -/
theorem probeAndBind_frame (s : State) :
    probeAndBind s =
      { s with
        dstate := (probeAndBind s).dstate
        bound32 := (probeAndBind s).bound32
        bound64 := (probeAndBind s).bound64 } := by
  unfold probeAndBind
  split <;> rfl

/-- `lazy_init` (R175): nothing on an initialised block, else all streams from the override seed or from a
sample of `ENV_SEED`. -/
theorem lazyInit_cases (s : State) :
    (s.rngInit = true ∧ lazyInit s = s) ∨
    (s.rngInit = false ∧ s.seedOvrEn = true ∧ lazyInit s = seedAll s.seedOvr s.tid s) ∨
    (s.rngInit = false ∧ s.seedOvrEn = false ∧
      lazyInit s = { seedAll (Config.envSeed s.envSamples) s.tid s with envSamples := s.envSamples + 1 }) := by
  unfold lazyInit
  cases s.rngInit <;> cases s.seedOvrEn <;> simp

/-- `lazy_init` changes the streams, `CTRL.RNG_INIT` and the sample counter only. -/
theorem lazyInit_frame (s : State) :
    lazyInit s =
      { s with
        streams := (lazyInit s).streams
        rngInit := (lazyInit s).rngInit
        envSamples := (lazyInit s).envSamples } := by
  unfold lazyInit
  split
  · rfl
  · split <;> rfl

/-- After `lazy_init` the block is initialised. -/
theorem lazyInit_rngInit (s : State) : (lazyInit s).rngInit = true := by
  rcases lazyInit_cases s with ⟨h, e⟩ | ⟨_, _, e⟩ | ⟨_, _, e⟩ <;> rw [e]
  · exact h
  · rfl
  · rfl

/-- `lazy_init` does nothing on an initialised block. -/
theorem lazyInit_of_init {s : State} (h : s.rngInit = true) : lazyInit s = s := by
  simp [lazyInit, h]

/-- `draw_raw` (R176). -/
theorem drawRaw_eq (i : Fin 16) (s : State) :
    drawRaw i s =
      (out s.params.prng (lazyInit s).streams[i],
       setStream i (advance s.params.prng (lazyInit s).streams[i]) (lazyInit s)) := by
  have h : (lazyInit s).params = s.params := by rw [lazyInit_frame]
  simp only [drawRaw, h]

/-- A lane function that needs no draw leaves the state alone. -/
@[simp] theorem Lane.run_plain {w : Nat} (v : BitVec w) (i : Fin 16) (s : State) :
    (Lane.plain v).run i s = (v, s) := rfl

/-- A lane function that draws takes exactly one raw draw from its own stream. -/
@[simp] theorem Lane.run_draw {w : Nat} (f : Word → BitVec w) (i : Fin 16) (s : State) :
    (Lane.draw f).run i s = (f (drawRaw i s).1, (drawRaw i s).2) := rfl

/-- Running a lane changes the streams, `CTRL.RNG_INIT` and the sample counter only. -/
theorem Lane.run_frame {w : Nat} (l : Lane w) (i : Fin 16) (s : State) :
    (l.run i s).2 =
      { s with
        streams := (l.run i s).2.streams
        rngInit := (l.run i s).2.rngInit
        envSamples := (l.run i s).2.envSamples } := by
  cases l with
  | plain v => rfl
  | draw f =>
    simp only [Lane.run_draw, drawRaw_eq]
    rw [lazyInit_frame]
    rfl

/-- The loop, its last iteration taken off. -/
@[simp] theorem forLanes_succ (n : Nat) (body : Nat → State → State) (s : State) :
    forLanes (n + 1) body s = body n (forLanes n body s) := rfl

/-- The empty loop. -/
@[simp] theorem forLanes_zero (body : Nat → State → State) (s : State) : forLanes 0 body s = s := rfl

/-- The loop rule: a relation to the starting state that every iteration below `n` keeps holds at the
end; it may name how many iterations have run. -/
theorem forLanes_induct {n : Nat} {body : Nat → State → State} {s : State} (P : Nat → State → Prop)
    (h0 : P 0 s) (hs : ∀ i t, i < n → P i t → P (i + 1) (body i t)) : P n (forLanes n body s) := by
  induction n with
  | zero => exact h0
  | succ n ih => exact hs n _ (Nat.lt_succ_self n) (ih fun i t hi => hs i t (Nat.lt_succ_of_lt hi))

/-- Lane numbers below 16 are themselves (R221). -/
@[simp] theorem lane_val (i : Nat) : (lane i).val = i % 16 := rfl

/-- A lane number below 16 names itself. -/
theorem lane_of_lt (j : Fin 16) : lane j.val = j := by
  apply Fin.ext
  simp [Nat.mod_eq_of_lt j.isLt]

/-- A dynamic vector command is rejected by its first failing check, or runs (R224, R252). -/
theorem dynamicKernel_cases (m : Mode) (op : Op) (k : Kind) (w : Nat) (s : State) :
    (dynamicCheck k w s = .ok ∧
      dynamicKernel m op k w s = respond .ok (forLanes w (dynamicLane m op k) (probeAndBind s))) ∨
    (dynamicCheck k w s ≠ .ok ∧ dynamicKernel m op k w s = respond (dynamicCheck k w s) s) := by
  unfold dynamicKernel
  cases dynamicCheck k w s <;> simp

/-- An array command is rejected by its first failing check, or runs (R225, R252). -/
theorem arrayKernel_cases (m : Mode) (op : Op) (k : Kind) (s : State) :
    (arrayCheck op k s = .ok ∧
      arrayKernel m op k s = respond .ok (forLanes s.count.toNat (arrayElement m op k) (probeAndBind s))) ∨
    (arrayCheck op k s ≠ .ok ∧ arrayKernel m op k s = respond (arrayCheck op k s) s) := by
  unfold arrayKernel
  cases arrayCheck op k s <;> simp

/-- Memory after reset is in canonical form, for every implementation. -/
theorem resetOf_mem_wf (p : Params) (n : Nat) : Memory.wf (State.resetOf p n).mem = true := rfl

/-- Memory after reset is in canonical form. -/
theorem reset_mem_wf : Memory.wf State.reset.mem = true := rfl

/-- A step with no host action left. -/
theorem step_idle {s : State} (h : s.pending = []) : step s = .next s := by
  simp [step, h]

/-- A step takes the first host action off the program and performs it. -/
theorem step_action {s : State} {a : HostAction} {rest : List HostAction} (h : s.pending = a :: rest) :
    step s = perform a { s with pending := rest } := by
  simp [step, h]

end Sys2Proof.Machine
end

