-- ==== Sys2Proof/Laws/PerInstr.lean ====
section
/-! SUPPORT. Per-command laws: one lemma for each constructor of `Instr`. -/

namespace Sys2Proof.Laws

/-- Cutting the word of a command into its fields and reading them gives the form the command stands for
(R81 to R88). -/
def EncodedWord.Statement (i : Instr) : Prop := (Fields.ofWord (encode i)).form = .ok i.form

theorem EncodedWord.srScalarAddF32 : EncodedWord.Statement .srScalarAddF32 := by rfl
theorem EncodedWord.srScalarSubF32 : EncodedWord.Statement .srScalarSubF32 := by rfl
theorem EncodedWord.srScalarMulF32 : EncodedWord.Statement .srScalarMulF32 := by rfl
theorem EncodedWord.srScalarDivF32 : EncodedWord.Statement .srScalarDivF32 := by rfl
theorem EncodedWord.srScalarSqrtF32 : EncodedWord.Statement .srScalarSqrtF32 := by rfl
theorem EncodedWord.srScalarFmaF32 : EncodedWord.Statement .srScalarFmaF32 := by rfl
theorem EncodedWord.srScalarAddF64 : EncodedWord.Statement .srScalarAddF64 := by rfl
theorem EncodedWord.srScalarSubF64 : EncodedWord.Statement .srScalarSubF64 := by rfl
theorem EncodedWord.srScalarMulF64 : EncodedWord.Statement .srScalarMulF64 := by rfl
theorem EncodedWord.srScalarDivF64 : EncodedWord.Statement .srScalarDivF64 := by rfl
theorem EncodedWord.srScalarSqrtF64 : EncodedWord.Statement .srScalarSqrtF64 := by rfl
theorem EncodedWord.srScalarFmaF64 : EncodedWord.Statement .srScalarFmaF64 := by rfl
theorem EncodedWord.srVectorAddF32X2Static : EncodedWord.Statement .srVectorAddF32X2Static := by rfl
theorem EncodedWord.srVectorSubF32X2Static : EncodedWord.Statement .srVectorSubF32X2Static := by rfl
theorem EncodedWord.srVectorMulF32X2Static : EncodedWord.Statement .srVectorMulF32X2Static := by rfl
theorem EncodedWord.srVectorDivF32X2Static : EncodedWord.Statement .srVectorDivF32X2Static := by rfl
theorem EncodedWord.srVectorSqrtF32X2Static : EncodedWord.Statement .srVectorSqrtF32X2Static := by rfl
theorem EncodedWord.srVectorFmaF32X2Static : EncodedWord.Statement .srVectorFmaF32X2Static := by rfl
theorem EncodedWord.srVectorAddF32X4Static : EncodedWord.Statement .srVectorAddF32X4Static := by rfl
theorem EncodedWord.srVectorSubF32X4Static : EncodedWord.Statement .srVectorSubF32X4Static := by rfl
theorem EncodedWord.srVectorMulF32X4Static : EncodedWord.Statement .srVectorMulF32X4Static := by rfl
theorem EncodedWord.srVectorDivF32X4Static : EncodedWord.Statement .srVectorDivF32X4Static := by rfl
theorem EncodedWord.srVectorSqrtF32X4Static : EncodedWord.Statement .srVectorSqrtF32X4Static := by rfl
theorem EncodedWord.srVectorFmaF32X4Static : EncodedWord.Statement .srVectorFmaF32X4Static := by rfl
theorem EncodedWord.srVectorAddF32X8Static : EncodedWord.Statement .srVectorAddF32X8Static := by rfl
theorem EncodedWord.srVectorSubF32X8Static : EncodedWord.Statement .srVectorSubF32X8Static := by rfl
theorem EncodedWord.srVectorMulF32X8Static : EncodedWord.Statement .srVectorMulF32X8Static := by rfl
theorem EncodedWord.srVectorDivF32X8Static : EncodedWord.Statement .srVectorDivF32X8Static := by rfl
theorem EncodedWord.srVectorSqrtF32X8Static : EncodedWord.Statement .srVectorSqrtF32X8Static := by rfl
theorem EncodedWord.srVectorFmaF32X8Static : EncodedWord.Statement .srVectorFmaF32X8Static := by rfl
theorem EncodedWord.srVectorAddF32X16Static : EncodedWord.Statement .srVectorAddF32X16Static := by rfl
theorem EncodedWord.srVectorSubF32X16Static : EncodedWord.Statement .srVectorSubF32X16Static := by rfl
theorem EncodedWord.srVectorMulF32X16Static : EncodedWord.Statement .srVectorMulF32X16Static := by rfl
theorem EncodedWord.srVectorDivF32X16Static : EncodedWord.Statement .srVectorDivF32X16Static := by rfl
theorem EncodedWord.srVectorSqrtF32X16Static : EncodedWord.Statement .srVectorSqrtF32X16Static := by rfl
theorem EncodedWord.srVectorFmaF32X16Static : EncodedWord.Statement .srVectorFmaF32X16Static := by rfl
theorem EncodedWord.srVectorAddF64X2Static : EncodedWord.Statement .srVectorAddF64X2Static := by rfl
theorem EncodedWord.srVectorSubF64X2Static : EncodedWord.Statement .srVectorSubF64X2Static := by rfl
theorem EncodedWord.srVectorMulF64X2Static : EncodedWord.Statement .srVectorMulF64X2Static := by rfl
theorem EncodedWord.srVectorDivF64X2Static : EncodedWord.Statement .srVectorDivF64X2Static := by rfl
theorem EncodedWord.srVectorSqrtF64X2Static : EncodedWord.Statement .srVectorSqrtF64X2Static := by rfl
theorem EncodedWord.srVectorFmaF64X2Static : EncodedWord.Statement .srVectorFmaF64X2Static := by rfl
theorem EncodedWord.srVectorAddF64X4Static : EncodedWord.Statement .srVectorAddF64X4Static := by rfl
theorem EncodedWord.srVectorSubF64X4Static : EncodedWord.Statement .srVectorSubF64X4Static := by rfl
theorem EncodedWord.srVectorMulF64X4Static : EncodedWord.Statement .srVectorMulF64X4Static := by rfl
theorem EncodedWord.srVectorDivF64X4Static : EncodedWord.Statement .srVectorDivF64X4Static := by rfl
theorem EncodedWord.srVectorSqrtF64X4Static : EncodedWord.Statement .srVectorSqrtF64X4Static := by rfl
theorem EncodedWord.srVectorFmaF64X4Static : EncodedWord.Statement .srVectorFmaF64X4Static := by rfl
theorem EncodedWord.srVectorAddF64X8Static : EncodedWord.Statement .srVectorAddF64X8Static := by rfl
theorem EncodedWord.srVectorSubF64X8Static : EncodedWord.Statement .srVectorSubF64X8Static := by rfl
theorem EncodedWord.srVectorMulF64X8Static : EncodedWord.Statement .srVectorMulF64X8Static := by rfl
theorem EncodedWord.srVectorDivF64X8Static : EncodedWord.Statement .srVectorDivF64X8Static := by rfl
theorem EncodedWord.srVectorSqrtF64X8Static : EncodedWord.Statement .srVectorSqrtF64X8Static := by rfl
theorem EncodedWord.srVectorFmaF64X8Static : EncodedWord.Statement .srVectorFmaF64X8Static := by rfl
theorem EncodedWord.srVectorAddF64X16Static : EncodedWord.Statement .srVectorAddF64X16Static := by rfl
theorem EncodedWord.srVectorSubF64X16Static : EncodedWord.Statement .srVectorSubF64X16Static := by rfl
theorem EncodedWord.srVectorMulF64X16Static : EncodedWord.Statement .srVectorMulF64X16Static := by rfl
theorem EncodedWord.srVectorDivF64X16Static : EncodedWord.Statement .srVectorDivF64X16Static := by rfl
theorem EncodedWord.srVectorSqrtF64X16Static : EncodedWord.Statement .srVectorSqrtF64X16Static := by rfl
theorem EncodedWord.srVectorFmaF64X16Static : EncodedWord.Statement .srVectorFmaF64X16Static := by rfl
theorem EncodedWord.srVectorAddF32X2Dynamic : EncodedWord.Statement .srVectorAddF32X2Dynamic := by rfl
theorem EncodedWord.srVectorSubF32X2Dynamic : EncodedWord.Statement .srVectorSubF32X2Dynamic := by rfl
theorem EncodedWord.srVectorMulF32X2Dynamic : EncodedWord.Statement .srVectorMulF32X2Dynamic := by rfl
theorem EncodedWord.srVectorDivF32X2Dynamic : EncodedWord.Statement .srVectorDivF32X2Dynamic := by rfl
theorem EncodedWord.srVectorSqrtF32X2Dynamic : EncodedWord.Statement .srVectorSqrtF32X2Dynamic := by rfl
theorem EncodedWord.srVectorFmaF32X2Dynamic : EncodedWord.Statement .srVectorFmaF32X2Dynamic := by rfl
theorem EncodedWord.srVectorAddF32X4Dynamic : EncodedWord.Statement .srVectorAddF32X4Dynamic := by rfl
theorem EncodedWord.srVectorSubF32X4Dynamic : EncodedWord.Statement .srVectorSubF32X4Dynamic := by rfl
theorem EncodedWord.srVectorMulF32X4Dynamic : EncodedWord.Statement .srVectorMulF32X4Dynamic := by rfl
theorem EncodedWord.srVectorDivF32X4Dynamic : EncodedWord.Statement .srVectorDivF32X4Dynamic := by rfl
theorem EncodedWord.srVectorSqrtF32X4Dynamic : EncodedWord.Statement .srVectorSqrtF32X4Dynamic := by rfl
theorem EncodedWord.srVectorFmaF32X4Dynamic : EncodedWord.Statement .srVectorFmaF32X4Dynamic := by rfl
theorem EncodedWord.srVectorAddF32X8Dynamic : EncodedWord.Statement .srVectorAddF32X8Dynamic := by rfl
theorem EncodedWord.srVectorSubF32X8Dynamic : EncodedWord.Statement .srVectorSubF32X8Dynamic := by rfl
theorem EncodedWord.srVectorMulF32X8Dynamic : EncodedWord.Statement .srVectorMulF32X8Dynamic := by rfl
theorem EncodedWord.srVectorDivF32X8Dynamic : EncodedWord.Statement .srVectorDivF32X8Dynamic := by rfl
theorem EncodedWord.srVectorSqrtF32X8Dynamic : EncodedWord.Statement .srVectorSqrtF32X8Dynamic := by rfl
theorem EncodedWord.srVectorFmaF32X8Dynamic : EncodedWord.Statement .srVectorFmaF32X8Dynamic := by rfl
theorem EncodedWord.srVectorAddF32X16Dynamic : EncodedWord.Statement .srVectorAddF32X16Dynamic := by rfl
theorem EncodedWord.srVectorSubF32X16Dynamic : EncodedWord.Statement .srVectorSubF32X16Dynamic := by rfl
theorem EncodedWord.srVectorMulF32X16Dynamic : EncodedWord.Statement .srVectorMulF32X16Dynamic := by rfl
theorem EncodedWord.srVectorDivF32X16Dynamic : EncodedWord.Statement .srVectorDivF32X16Dynamic := by rfl
theorem EncodedWord.srVectorSqrtF32X16Dynamic : EncodedWord.Statement .srVectorSqrtF32X16Dynamic := by rfl
theorem EncodedWord.srVectorFmaF32X16Dynamic : EncodedWord.Statement .srVectorFmaF32X16Dynamic := by rfl
theorem EncodedWord.srVectorAddF64X2Dynamic : EncodedWord.Statement .srVectorAddF64X2Dynamic := by rfl
theorem EncodedWord.srVectorSubF64X2Dynamic : EncodedWord.Statement .srVectorSubF64X2Dynamic := by rfl
theorem EncodedWord.srVectorMulF64X2Dynamic : EncodedWord.Statement .srVectorMulF64X2Dynamic := by rfl
theorem EncodedWord.srVectorDivF64X2Dynamic : EncodedWord.Statement .srVectorDivF64X2Dynamic := by rfl
theorem EncodedWord.srVectorSqrtF64X2Dynamic : EncodedWord.Statement .srVectorSqrtF64X2Dynamic := by rfl
theorem EncodedWord.srVectorFmaF64X2Dynamic : EncodedWord.Statement .srVectorFmaF64X2Dynamic := by rfl
theorem EncodedWord.srVectorAddF64X4Dynamic : EncodedWord.Statement .srVectorAddF64X4Dynamic := by rfl
theorem EncodedWord.srVectorSubF64X4Dynamic : EncodedWord.Statement .srVectorSubF64X4Dynamic := by rfl
theorem EncodedWord.srVectorMulF64X4Dynamic : EncodedWord.Statement .srVectorMulF64X4Dynamic := by rfl
theorem EncodedWord.srVectorDivF64X4Dynamic : EncodedWord.Statement .srVectorDivF64X4Dynamic := by rfl
theorem EncodedWord.srVectorSqrtF64X4Dynamic : EncodedWord.Statement .srVectorSqrtF64X4Dynamic := by rfl
theorem EncodedWord.srVectorFmaF64X4Dynamic : EncodedWord.Statement .srVectorFmaF64X4Dynamic := by rfl
theorem EncodedWord.srVectorAddF64X8Dynamic : EncodedWord.Statement .srVectorAddF64X8Dynamic := by rfl
theorem EncodedWord.srVectorSubF64X8Dynamic : EncodedWord.Statement .srVectorSubF64X8Dynamic := by rfl
theorem EncodedWord.srVectorMulF64X8Dynamic : EncodedWord.Statement .srVectorMulF64X8Dynamic := by rfl
theorem EncodedWord.srVectorDivF64X8Dynamic : EncodedWord.Statement .srVectorDivF64X8Dynamic := by rfl
theorem EncodedWord.srVectorSqrtF64X8Dynamic : EncodedWord.Statement .srVectorSqrtF64X8Dynamic := by rfl
theorem EncodedWord.srVectorFmaF64X8Dynamic : EncodedWord.Statement .srVectorFmaF64X8Dynamic := by rfl
theorem EncodedWord.srVectorAddF64X16Dynamic : EncodedWord.Statement .srVectorAddF64X16Dynamic := by rfl
theorem EncodedWord.srVectorSubF64X16Dynamic : EncodedWord.Statement .srVectorSubF64X16Dynamic := by rfl
theorem EncodedWord.srVectorMulF64X16Dynamic : EncodedWord.Statement .srVectorMulF64X16Dynamic := by rfl
theorem EncodedWord.srVectorDivF64X16Dynamic : EncodedWord.Statement .srVectorDivF64X16Dynamic := by rfl
theorem EncodedWord.srVectorSqrtF64X16Dynamic : EncodedWord.Statement .srVectorSqrtF64X16Dynamic := by rfl
theorem EncodedWord.srVectorFmaF64X16Dynamic : EncodedWord.Statement .srVectorFmaF64X16Dynamic := by rfl
theorem EncodedWord.udScalarAddF32 : EncodedWord.Statement .udScalarAddF32 := by rfl
theorem EncodedWord.udScalarSubF32 : EncodedWord.Statement .udScalarSubF32 := by rfl
theorem EncodedWord.udScalarMulF32 : EncodedWord.Statement .udScalarMulF32 := by rfl
theorem EncodedWord.udScalarDivF32 : EncodedWord.Statement .udScalarDivF32 := by rfl
theorem EncodedWord.udScalarSqrtF32 : EncodedWord.Statement .udScalarSqrtF32 := by rfl
theorem EncodedWord.udScalarFmaF32 : EncodedWord.Statement .udScalarFmaF32 := by rfl
theorem EncodedWord.udScalarAddF64 : EncodedWord.Statement .udScalarAddF64 := by rfl
theorem EncodedWord.udScalarSubF64 : EncodedWord.Statement .udScalarSubF64 := by rfl
theorem EncodedWord.udScalarMulF64 : EncodedWord.Statement .udScalarMulF64 := by rfl
theorem EncodedWord.udScalarDivF64 : EncodedWord.Statement .udScalarDivF64 := by rfl
theorem EncodedWord.udScalarSqrtF64 : EncodedWord.Statement .udScalarSqrtF64 := by rfl
theorem EncodedWord.udScalarFmaF64 : EncodedWord.Statement .udScalarFmaF64 := by rfl
theorem EncodedWord.udVectorAddF32X2Static : EncodedWord.Statement .udVectorAddF32X2Static := by rfl
theorem EncodedWord.udVectorSubF32X2Static : EncodedWord.Statement .udVectorSubF32X2Static := by rfl
theorem EncodedWord.udVectorMulF32X2Static : EncodedWord.Statement .udVectorMulF32X2Static := by rfl
theorem EncodedWord.udVectorDivF32X2Static : EncodedWord.Statement .udVectorDivF32X2Static := by rfl
theorem EncodedWord.udVectorSqrtF32X2Static : EncodedWord.Statement .udVectorSqrtF32X2Static := by rfl
theorem EncodedWord.udVectorFmaF32X2Static : EncodedWord.Statement .udVectorFmaF32X2Static := by rfl
theorem EncodedWord.udVectorAddF32X4Static : EncodedWord.Statement .udVectorAddF32X4Static := by rfl
theorem EncodedWord.udVectorSubF32X4Static : EncodedWord.Statement .udVectorSubF32X4Static := by rfl
theorem EncodedWord.udVectorMulF32X4Static : EncodedWord.Statement .udVectorMulF32X4Static := by rfl
theorem EncodedWord.udVectorDivF32X4Static : EncodedWord.Statement .udVectorDivF32X4Static := by rfl
theorem EncodedWord.udVectorSqrtF32X4Static : EncodedWord.Statement .udVectorSqrtF32X4Static := by rfl
theorem EncodedWord.udVectorFmaF32X4Static : EncodedWord.Statement .udVectorFmaF32X4Static := by rfl
theorem EncodedWord.udVectorAddF32X8Static : EncodedWord.Statement .udVectorAddF32X8Static := by rfl
theorem EncodedWord.udVectorSubF32X8Static : EncodedWord.Statement .udVectorSubF32X8Static := by rfl
theorem EncodedWord.udVectorMulF32X8Static : EncodedWord.Statement .udVectorMulF32X8Static := by rfl
theorem EncodedWord.udVectorDivF32X8Static : EncodedWord.Statement .udVectorDivF32X8Static := by rfl
theorem EncodedWord.udVectorSqrtF32X8Static : EncodedWord.Statement .udVectorSqrtF32X8Static := by rfl
theorem EncodedWord.udVectorFmaF32X8Static : EncodedWord.Statement .udVectorFmaF32X8Static := by rfl
theorem EncodedWord.udVectorAddF32X16Static : EncodedWord.Statement .udVectorAddF32X16Static := by rfl
theorem EncodedWord.udVectorSubF32X16Static : EncodedWord.Statement .udVectorSubF32X16Static := by rfl
theorem EncodedWord.udVectorMulF32X16Static : EncodedWord.Statement .udVectorMulF32X16Static := by rfl
theorem EncodedWord.udVectorDivF32X16Static : EncodedWord.Statement .udVectorDivF32X16Static := by rfl
theorem EncodedWord.udVectorSqrtF32X16Static : EncodedWord.Statement .udVectorSqrtF32X16Static := by rfl
theorem EncodedWord.udVectorFmaF32X16Static : EncodedWord.Statement .udVectorFmaF32X16Static := by rfl
theorem EncodedWord.udVectorAddF64X2Static : EncodedWord.Statement .udVectorAddF64X2Static := by rfl
theorem EncodedWord.udVectorSubF64X2Static : EncodedWord.Statement .udVectorSubF64X2Static := by rfl
theorem EncodedWord.udVectorMulF64X2Static : EncodedWord.Statement .udVectorMulF64X2Static := by rfl
theorem EncodedWord.udVectorDivF64X2Static : EncodedWord.Statement .udVectorDivF64X2Static := by rfl
theorem EncodedWord.udVectorSqrtF64X2Static : EncodedWord.Statement .udVectorSqrtF64X2Static := by rfl
theorem EncodedWord.udVectorFmaF64X2Static : EncodedWord.Statement .udVectorFmaF64X2Static := by rfl
theorem EncodedWord.udVectorAddF64X4Static : EncodedWord.Statement .udVectorAddF64X4Static := by rfl
theorem EncodedWord.udVectorSubF64X4Static : EncodedWord.Statement .udVectorSubF64X4Static := by rfl
theorem EncodedWord.udVectorMulF64X4Static : EncodedWord.Statement .udVectorMulF64X4Static := by rfl
theorem EncodedWord.udVectorDivF64X4Static : EncodedWord.Statement .udVectorDivF64X4Static := by rfl
theorem EncodedWord.udVectorSqrtF64X4Static : EncodedWord.Statement .udVectorSqrtF64X4Static := by rfl
theorem EncodedWord.udVectorFmaF64X4Static : EncodedWord.Statement .udVectorFmaF64X4Static := by rfl
theorem EncodedWord.udVectorAddF64X8Static : EncodedWord.Statement .udVectorAddF64X8Static := by rfl
theorem EncodedWord.udVectorSubF64X8Static : EncodedWord.Statement .udVectorSubF64X8Static := by rfl
theorem EncodedWord.udVectorMulF64X8Static : EncodedWord.Statement .udVectorMulF64X8Static := by rfl
theorem EncodedWord.udVectorDivF64X8Static : EncodedWord.Statement .udVectorDivF64X8Static := by rfl
theorem EncodedWord.udVectorSqrtF64X8Static : EncodedWord.Statement .udVectorSqrtF64X8Static := by rfl
theorem EncodedWord.udVectorFmaF64X8Static : EncodedWord.Statement .udVectorFmaF64X8Static := by rfl
theorem EncodedWord.udVectorAddF64X16Static : EncodedWord.Statement .udVectorAddF64X16Static := by rfl
theorem EncodedWord.udVectorSubF64X16Static : EncodedWord.Statement .udVectorSubF64X16Static := by rfl
theorem EncodedWord.udVectorMulF64X16Static : EncodedWord.Statement .udVectorMulF64X16Static := by rfl
theorem EncodedWord.udVectorDivF64X16Static : EncodedWord.Statement .udVectorDivF64X16Static := by rfl
theorem EncodedWord.udVectorSqrtF64X16Static : EncodedWord.Statement .udVectorSqrtF64X16Static := by rfl
theorem EncodedWord.udVectorFmaF64X16Static : EncodedWord.Statement .udVectorFmaF64X16Static := by rfl
theorem EncodedWord.udVectorAddF32X2Dynamic : EncodedWord.Statement .udVectorAddF32X2Dynamic := by rfl
theorem EncodedWord.udVectorSubF32X2Dynamic : EncodedWord.Statement .udVectorSubF32X2Dynamic := by rfl
theorem EncodedWord.udVectorMulF32X2Dynamic : EncodedWord.Statement .udVectorMulF32X2Dynamic := by rfl
theorem EncodedWord.udVectorDivF32X2Dynamic : EncodedWord.Statement .udVectorDivF32X2Dynamic := by rfl
theorem EncodedWord.udVectorSqrtF32X2Dynamic : EncodedWord.Statement .udVectorSqrtF32X2Dynamic := by rfl
theorem EncodedWord.udVectorFmaF32X2Dynamic : EncodedWord.Statement .udVectorFmaF32X2Dynamic := by rfl
theorem EncodedWord.udVectorAddF32X4Dynamic : EncodedWord.Statement .udVectorAddF32X4Dynamic := by rfl
theorem EncodedWord.udVectorSubF32X4Dynamic : EncodedWord.Statement .udVectorSubF32X4Dynamic := by rfl
theorem EncodedWord.udVectorMulF32X4Dynamic : EncodedWord.Statement .udVectorMulF32X4Dynamic := by rfl
theorem EncodedWord.udVectorDivF32X4Dynamic : EncodedWord.Statement .udVectorDivF32X4Dynamic := by rfl
theorem EncodedWord.udVectorSqrtF32X4Dynamic : EncodedWord.Statement .udVectorSqrtF32X4Dynamic := by rfl
theorem EncodedWord.udVectorFmaF32X4Dynamic : EncodedWord.Statement .udVectorFmaF32X4Dynamic := by rfl
theorem EncodedWord.udVectorAddF32X8Dynamic : EncodedWord.Statement .udVectorAddF32X8Dynamic := by rfl
theorem EncodedWord.udVectorSubF32X8Dynamic : EncodedWord.Statement .udVectorSubF32X8Dynamic := by rfl
theorem EncodedWord.udVectorMulF32X8Dynamic : EncodedWord.Statement .udVectorMulF32X8Dynamic := by rfl
theorem EncodedWord.udVectorDivF32X8Dynamic : EncodedWord.Statement .udVectorDivF32X8Dynamic := by rfl
theorem EncodedWord.udVectorSqrtF32X8Dynamic : EncodedWord.Statement .udVectorSqrtF32X8Dynamic := by rfl
theorem EncodedWord.udVectorFmaF32X8Dynamic : EncodedWord.Statement .udVectorFmaF32X8Dynamic := by rfl
theorem EncodedWord.udVectorAddF32X16Dynamic : EncodedWord.Statement .udVectorAddF32X16Dynamic := by rfl
theorem EncodedWord.udVectorSubF32X16Dynamic : EncodedWord.Statement .udVectorSubF32X16Dynamic := by rfl
theorem EncodedWord.udVectorMulF32X16Dynamic : EncodedWord.Statement .udVectorMulF32X16Dynamic := by rfl
theorem EncodedWord.udVectorDivF32X16Dynamic : EncodedWord.Statement .udVectorDivF32X16Dynamic := by rfl
theorem EncodedWord.udVectorSqrtF32X16Dynamic : EncodedWord.Statement .udVectorSqrtF32X16Dynamic := by rfl
theorem EncodedWord.udVectorFmaF32X16Dynamic : EncodedWord.Statement .udVectorFmaF32X16Dynamic := by rfl
theorem EncodedWord.udVectorAddF64X2Dynamic : EncodedWord.Statement .udVectorAddF64X2Dynamic := by rfl
theorem EncodedWord.udVectorSubF64X2Dynamic : EncodedWord.Statement .udVectorSubF64X2Dynamic := by rfl
theorem EncodedWord.udVectorMulF64X2Dynamic : EncodedWord.Statement .udVectorMulF64X2Dynamic := by rfl
theorem EncodedWord.udVectorDivF64X2Dynamic : EncodedWord.Statement .udVectorDivF64X2Dynamic := by rfl
theorem EncodedWord.udVectorSqrtF64X2Dynamic : EncodedWord.Statement .udVectorSqrtF64X2Dynamic := by rfl
theorem EncodedWord.udVectorFmaF64X2Dynamic : EncodedWord.Statement .udVectorFmaF64X2Dynamic := by rfl
theorem EncodedWord.udVectorAddF64X4Dynamic : EncodedWord.Statement .udVectorAddF64X4Dynamic := by rfl
theorem EncodedWord.udVectorSubF64X4Dynamic : EncodedWord.Statement .udVectorSubF64X4Dynamic := by rfl
theorem EncodedWord.udVectorMulF64X4Dynamic : EncodedWord.Statement .udVectorMulF64X4Dynamic := by rfl
theorem EncodedWord.udVectorDivF64X4Dynamic : EncodedWord.Statement .udVectorDivF64X4Dynamic := by rfl
theorem EncodedWord.udVectorSqrtF64X4Dynamic : EncodedWord.Statement .udVectorSqrtF64X4Dynamic := by rfl
theorem EncodedWord.udVectorFmaF64X4Dynamic : EncodedWord.Statement .udVectorFmaF64X4Dynamic := by rfl
theorem EncodedWord.udVectorAddF64X8Dynamic : EncodedWord.Statement .udVectorAddF64X8Dynamic := by rfl
theorem EncodedWord.udVectorSubF64X8Dynamic : EncodedWord.Statement .udVectorSubF64X8Dynamic := by rfl
theorem EncodedWord.udVectorMulF64X8Dynamic : EncodedWord.Statement .udVectorMulF64X8Dynamic := by rfl
theorem EncodedWord.udVectorDivF64X8Dynamic : EncodedWord.Statement .udVectorDivF64X8Dynamic := by rfl
theorem EncodedWord.udVectorSqrtF64X8Dynamic : EncodedWord.Statement .udVectorSqrtF64X8Dynamic := by rfl
theorem EncodedWord.udVectorFmaF64X8Dynamic : EncodedWord.Statement .udVectorFmaF64X8Dynamic := by rfl
theorem EncodedWord.udVectorAddF64X16Dynamic : EncodedWord.Statement .udVectorAddF64X16Dynamic := by rfl
theorem EncodedWord.udVectorSubF64X16Dynamic : EncodedWord.Statement .udVectorSubF64X16Dynamic := by rfl
theorem EncodedWord.udVectorMulF64X16Dynamic : EncodedWord.Statement .udVectorMulF64X16Dynamic := by rfl
theorem EncodedWord.udVectorDivF64X16Dynamic : EncodedWord.Statement .udVectorDivF64X16Dynamic := by rfl
theorem EncodedWord.udVectorSqrtF64X16Dynamic : EncodedWord.Statement .udVectorSqrtF64X16Dynamic := by rfl
theorem EncodedWord.udVectorFmaF64X16Dynamic : EncodedWord.Statement .udVectorFmaF64X16Dynamic := by rfl
theorem EncodedWord.srArrayAddF32 : EncodedWord.Statement .srArrayAddF32 := by rfl
theorem EncodedWord.srArraySubF32 : EncodedWord.Statement .srArraySubF32 := by rfl
theorem EncodedWord.srArrayMulF32 : EncodedWord.Statement .srArrayMulF32 := by rfl
theorem EncodedWord.srArrayDivF32 : EncodedWord.Statement .srArrayDivF32 := by rfl
theorem EncodedWord.srArraySqrtF32 : EncodedWord.Statement .srArraySqrtF32 := by rfl
theorem EncodedWord.srArrayFmaF32 : EncodedWord.Statement .srArrayFmaF32 := by rfl
theorem EncodedWord.srArrayAddF64 : EncodedWord.Statement .srArrayAddF64 := by rfl
theorem EncodedWord.srArraySubF64 : EncodedWord.Statement .srArraySubF64 := by rfl
theorem EncodedWord.srArrayMulF64 : EncodedWord.Statement .srArrayMulF64 := by rfl
theorem EncodedWord.srArrayDivF64 : EncodedWord.Statement .srArrayDivF64 := by rfl
theorem EncodedWord.srArraySqrtF64 : EncodedWord.Statement .srArraySqrtF64 := by rfl
theorem EncodedWord.srArrayFmaF64 : EncodedWord.Statement .srArrayFmaF64 := by rfl
theorem EncodedWord.udArrayAddF32 : EncodedWord.Statement .udArrayAddF32 := by rfl
theorem EncodedWord.udArraySubF32 : EncodedWord.Statement .udArraySubF32 := by rfl
theorem EncodedWord.udArrayMulF32 : EncodedWord.Statement .udArrayMulF32 := by rfl
theorem EncodedWord.udArrayDivF32 : EncodedWord.Statement .udArrayDivF32 := by rfl
theorem EncodedWord.udArraySqrtF32 : EncodedWord.Statement .udArraySqrtF32 := by rfl
theorem EncodedWord.udArrayFmaF32 : EncodedWord.Statement .udArrayFmaF32 := by rfl
theorem EncodedWord.udArrayAddF64 : EncodedWord.Statement .udArrayAddF64 := by rfl
theorem EncodedWord.udArraySubF64 : EncodedWord.Statement .udArraySubF64 := by rfl
theorem EncodedWord.udArrayMulF64 : EncodedWord.Statement .udArrayMulF64 := by rfl
theorem EncodedWord.udArrayDivF64 : EncodedWord.Statement .udArrayDivF64 := by rfl
theorem EncodedWord.udArraySqrtF64 : EncodedWord.Statement .udArraySqrtF64 := by rfl
theorem EncodedWord.udArrayFmaF64 : EncodedWord.Statement .udArrayFmaF64 := by rfl
theorem EncodedWord.primTwosumF32 : EncodedWord.Statement .primTwosumF32 := by rfl
theorem EncodedWord.primTwoprodF32 : EncodedWord.Statement .primTwoprodF32 := by rfl
theorem EncodedWord.primSrroundF32 : EncodedWord.Statement .primSrroundF32 := by rfl
theorem EncodedWord.primUdroundF32 : EncodedWord.Statement .primUdroundF32 := by rfl
theorem EncodedWord.primTwosumF32X2 : EncodedWord.Statement .primTwosumF32X2 := by rfl
theorem EncodedWord.primTwoprodF32X2 : EncodedWord.Statement .primTwoprodF32X2 := by rfl
theorem EncodedWord.primSrroundF32X2 : EncodedWord.Statement .primSrroundF32X2 := by rfl
theorem EncodedWord.primUdroundF32X2 : EncodedWord.Statement .primUdroundF32X2 := by rfl
theorem EncodedWord.primTwosumF32X4 : EncodedWord.Statement .primTwosumF32X4 := by rfl
theorem EncodedWord.primTwoprodF32X4 : EncodedWord.Statement .primTwoprodF32X4 := by rfl
theorem EncodedWord.primSrroundF32X4 : EncodedWord.Statement .primSrroundF32X4 := by rfl
theorem EncodedWord.primUdroundF32X4 : EncodedWord.Statement .primUdroundF32X4 := by rfl
theorem EncodedWord.primTwosumF32X8 : EncodedWord.Statement .primTwosumF32X8 := by rfl
theorem EncodedWord.primTwoprodF32X8 : EncodedWord.Statement .primTwoprodF32X8 := by rfl
theorem EncodedWord.primSrroundF32X8 : EncodedWord.Statement .primSrroundF32X8 := by rfl
theorem EncodedWord.primUdroundF32X8 : EncodedWord.Statement .primUdroundF32X8 := by rfl
theorem EncodedWord.primTwosumF32X16 : EncodedWord.Statement .primTwosumF32X16 := by rfl
theorem EncodedWord.primTwoprodF32X16 : EncodedWord.Statement .primTwoprodF32X16 := by rfl
theorem EncodedWord.primSrroundF32X16 : EncodedWord.Statement .primSrroundF32X16 := by rfl
theorem EncodedWord.primUdroundF32X16 : EncodedWord.Statement .primUdroundF32X16 := by rfl
theorem EncodedWord.primTwosumF64 : EncodedWord.Statement .primTwosumF64 := by rfl
theorem EncodedWord.primTwoprodF64 : EncodedWord.Statement .primTwoprodF64 := by rfl
theorem EncodedWord.primSrroundF64 : EncodedWord.Statement .primSrroundF64 := by rfl
theorem EncodedWord.primUdroundF64 : EncodedWord.Statement .primUdroundF64 := by rfl
theorem EncodedWord.primTwosumF64X2 : EncodedWord.Statement .primTwosumF64X2 := by rfl
theorem EncodedWord.primTwoprodF64X2 : EncodedWord.Statement .primTwoprodF64X2 := by rfl
theorem EncodedWord.primSrroundF64X2 : EncodedWord.Statement .primSrroundF64X2 := by rfl
theorem EncodedWord.primUdroundF64X2 : EncodedWord.Statement .primUdroundF64X2 := by rfl
theorem EncodedWord.primTwosumF64X4 : EncodedWord.Statement .primTwosumF64X4 := by rfl
theorem EncodedWord.primTwoprodF64X4 : EncodedWord.Statement .primTwoprodF64X4 := by rfl
theorem EncodedWord.primSrroundF64X4 : EncodedWord.Statement .primSrroundF64X4 := by rfl
theorem EncodedWord.primUdroundF64X4 : EncodedWord.Statement .primUdroundF64X4 := by rfl
theorem EncodedWord.primTwosumF64X8 : EncodedWord.Statement .primTwosumF64X8 := by rfl
theorem EncodedWord.primTwoprodF64X8 : EncodedWord.Statement .primTwoprodF64X8 := by rfl
theorem EncodedWord.primSrroundF64X8 : EncodedWord.Statement .primSrroundF64X8 := by rfl
theorem EncodedWord.primUdroundF64X8 : EncodedWord.Statement .primUdroundF64X8 := by rfl
theorem EncodedWord.primTwosumF64X16 : EncodedWord.Statement .primTwosumF64X16 := by rfl
theorem EncodedWord.primTwoprodF64X16 : EncodedWord.Statement .primTwoprodF64X16 := by rfl
theorem EncodedWord.primSrroundF64X16 : EncodedWord.Statement .primSrroundF64X16 := by rfl
theorem EncodedWord.primUdroundF64X16 : EncodedWord.Statement .primUdroundF64X16 := by rfl
theorem EncodedWord.rngSeed : EncodedWord.Statement .rngSeed := by rfl
theorem EncodedWord.rngNext : EncodedWord.Statement .rngNext := by rfl
theorem EncodedWord.rngUniformF32 : EncodedWord.Statement .rngUniformF32 := by rfl
theorem EncodedWord.rngJump : EncodedWord.Statement .rngJump := by rfl
theorem EncodedWord.rngLjump : EncodedWord.Statement .rngLjump := by rfl
theorem EncodedWord.rngNextX2 : EncodedWord.Statement .rngNextX2 := by rfl
theorem EncodedWord.rngUniformF32X2 : EncodedWord.Statement .rngUniformF32X2 := by rfl
theorem EncodedWord.rngJumpX2 : EncodedWord.Statement .rngJumpX2 := by rfl
theorem EncodedWord.rngLjumpX2 : EncodedWord.Statement .rngLjumpX2 := by rfl
theorem EncodedWord.rngNextX4 : EncodedWord.Statement .rngNextX4 := by rfl
theorem EncodedWord.rngUniformF32X4 : EncodedWord.Statement .rngUniformF32X4 := by rfl
theorem EncodedWord.rngJumpX4 : EncodedWord.Statement .rngJumpX4 := by rfl
theorem EncodedWord.rngLjumpX4 : EncodedWord.Statement .rngLjumpX4 := by rfl
theorem EncodedWord.rngNextX8 : EncodedWord.Statement .rngNextX8 := by rfl
theorem EncodedWord.rngUniformF32X8 : EncodedWord.Statement .rngUniformF32X8 := by rfl
theorem EncodedWord.rngJumpX8 : EncodedWord.Statement .rngJumpX8 := by rfl
theorem EncodedWord.rngLjumpX8 : EncodedWord.Statement .rngLjumpX8 := by rfl
theorem EncodedWord.rngNextX16 : EncodedWord.Statement .rngNextX16 := by rfl
theorem EncodedWord.rngUniformF32X16 : EncodedWord.Statement .rngUniformF32X16 := by rfl
theorem EncodedWord.rngJumpX16 : EncodedWord.Statement .rngJumpX16 := by rfl
theorem EncodedWord.rngLjumpX16 : EncodedWord.Statement .rngLjumpX16 := by rfl
theorem EncodedWord.rngUniformF64 : EncodedWord.Statement .rngUniformF64 := by rfl
theorem EncodedWord.rngUniformF64X2 : EncodedWord.Statement .rngUniformF64X2 := by rfl
theorem EncodedWord.rngUniformF64X4 : EncodedWord.Statement .rngUniformF64X4 := by rfl
theorem EncodedWord.rngUniformF64X8 : EncodedWord.Statement .rngUniformF64X8 := by rfl
theorem EncodedWord.rngUniformF64X16 : EncodedWord.Statement .rngUniformF64X16 := by rfl
theorem EncodedWord.sysNop : EncodedWord.Statement .sysNop := by rfl
theorem EncodedWord.sysProbe : EncodedWord.Statement .sysProbe := by rfl

end Sys2Proof.Laws
end

