-- ==== Sys2Proof/Tests/Slice0.lean ====
section
/-! SUPPORT. The model's own tests: the well-formedness checks, every command's word, vectors of
spec/95_test_vectors.md and spec/96_test_vectors_kernels.md (the expected values are the spec's), and for
each statement with hypotheses a witness that meets them. -/

namespace Sys2Proof.Tests

set_option Elab.async false

open Sys2Proof.Machine

/-- A stream whose next raw draw is `r` under the default scrambler: `rotl(s3, 23)` with `s0 = 0` (R168). -/
def streamOf (r : Word) : Stream := ⟨0#64, 0#64, 0#64, rotl64 r 41⟩

/-- A small instance: registers 0, memory at 0x1000 to 0x1FFF (the common start of section 7 of
spec/96_test_vectors_kernels.md), initialised streams that all yield `r` first. -/
def blank (r : Word) : State :=
  { opa := Vector.replicate 16 0#64, opb := Vector.replicate 16 0#64, opc := Vector.replicate 16 0#64
    res := Vector.replicate 16 7#64, resx := Vector.replicate 16 9#64
    streams := Vector.replicate 16 (streamOf r)
    dstate := .unselected, err := .ok, bound32 := 0#3, bound64 := 0#3
    trace := false, seedOvrEn := false, rngInit := true, seedOvr := 0#64, tid := 0#16
    seedArg := 42#64, streamArg := 0#16, count := 0#64, srca := 0#64, srcb := 0#64, srcc := 0#64, dst := 0#64
    mem := [], params := { Config.params with memMap := [⟨0x1000, 0x1000⟩] }
    pending := [], readback := [], envSamples := 0, resets := 0 }

/-- The same value in every lane of the three operand registers. -/
def withLanes (a b c : Word) (s : State) : State :=
  { s with opa := Vector.replicate 16 a, opb := Vector.replicate 16 b, opc := Vector.replicate 16 c }

/-- Base registers and count. -/
def withBuffers (n a b d : Word) (s : State) : State := { s with count := n, srca := a, srcb := b, dst := d }

/-- The state after a command. -/
def after (i : Instr) (s : State) : State :=
  match exec i s with
  | .next t => t
  | _ => s

/-- The state after one step with one host action. -/
def afterHost (a : HostAction) (s : State) : State :=
  match step { s with pending := [a] } with
  | .next t => t
  | _ => s

/-- A value written to `CMD` is no command. -/
def illegal (v : Word) : Bool :=
  match decode v with
  | .ok _ => false
  | .error _ => true

/-! Well-formedness: an ill-formed form for each check. -/

theorem test_wf_scalar_has_one_lane :
    Form.wellFormed (.arith .sr .none .f32 1 .add) = false ∧
    Form.wellFormed (.arith .sr .none .f32 0 .add) = true := by decide
theorem test_wf_static_has_lanes :
    Form.wellFormed (.arith .sr .static .f32 0 .add) = false ∧
    Form.wellFormed (.arith .sr .static .f32 5 .add) = false ∧
    Form.wellFormed (.arith .sr .static .f32 4 .add) = true := by decide
theorem test_wf_dynamic_has_lanes :
    Form.wellFormed (.arith .ud .dynamic .f64 0 .mul) = false ∧
    Form.wellFormed (.arith .ud .dynamic .f64 5 .mul) = false ∧
    Form.wellFormed (.arith .ud .dynamic .f64 1 .mul) = true := by decide
theorem test_wf_prim_width :
    Form.wellFormed (.prim .f32 5 .twosum) = false ∧
    Form.wellFormed (.prim .f32 4 .twosum) = true := by decide
theorem test_wf_rng_kind :
    Form.wellFormed (.rng .next .f64 0) = false ∧
    Form.wellFormed (.rng .seed .f64 0) = false ∧
    Form.wellFormed (.rng .uniform .f64 0) = true := by decide
theorem test_wf_rng_width :
    Form.wellFormed (.rng .seed .f32 1) = false ∧
    Form.wellFormed (.rng .jump .f32 5) = false ∧
    Form.wellFormed (.rng .jump .f32 4) = true := by decide

/-! Decoding: every word of the opcode map (R81 to R89), then words written field by field (R81). -/

theorem test_decode_rows_01 :
    [(0x10000000, .srScalarAddF32),
     (0x10010000, .srScalarSubF32),
     (0x10020000, .srScalarMulF32),
     (0x10030000, .srScalarDivF32),
     (0x10040000, .srScalarSqrtF32),
     (0x10050000, .srScalarFmaF32),
     (0x11000000, .srScalarAddF64),
     (0x11010000, .srScalarSubF64),
     (0x11020000, .srScalarMulF64),
     (0x11030000, .srScalarDivF64),
     (0x11040000, .srScalarSqrtF64),
     (0x11050000, .srScalarFmaF64),
     (0x12200000, .srVectorAddF32X2Static),
     (0x12210000, .srVectorSubF32X2Static),
     (0x12220000, .srVectorMulF32X2Static),
     (0x12230000, .srVectorDivF32X2Static),
     (0x12240000, .srVectorSqrtF32X2Static),
     (0x12250000, .srVectorFmaF32X2Static),
     (0x12400000, .srVectorAddF32X4Static),
     (0x12410000, .srVectorSubF32X4Static),
     (0x12420000, .srVectorMulF32X4Static),
     (0x12430000, .srVectorDivF32X4Static),
     (0x12440000, .srVectorSqrtF32X4Static),
     (0x12450000, .srVectorFmaF32X4Static),
     (0x12600000, .srVectorAddF32X8Static),
     (0x12610000, .srVectorSubF32X8Static),
     (0x12620000, .srVectorMulF32X8Static),
     (0x12630000, .srVectorDivF32X8Static)].all (fun r : Nat × Instr =>
      decodeTableWord 32 r.1 == some r.2) = true := by decide +kernel
theorem test_decode_rows_02 :
    [(0x12640000, .srVectorSqrtF32X8Static),
     (0x12650000, .srVectorFmaF32X8Static),
     (0x12800000, .srVectorAddF32X16Static),
     (0x12810000, .srVectorSubF32X16Static),
     (0x12820000, .srVectorMulF32X16Static),
     (0x12830000, .srVectorDivF32X16Static),
     (0x12840000, .srVectorSqrtF32X16Static),
     (0x12850000, .srVectorFmaF32X16Static),
     (0x13200000, .srVectorAddF64X2Static),
     (0x13210000, .srVectorSubF64X2Static),
     (0x13220000, .srVectorMulF64X2Static),
     (0x13230000, .srVectorDivF64X2Static),
     (0x13240000, .srVectorSqrtF64X2Static),
     (0x13250000, .srVectorFmaF64X2Static),
     (0x13400000, .srVectorAddF64X4Static),
     (0x13410000, .srVectorSubF64X4Static),
     (0x13420000, .srVectorMulF64X4Static),
     (0x13430000, .srVectorDivF64X4Static),
     (0x13440000, .srVectorSqrtF64X4Static),
     (0x13450000, .srVectorFmaF64X4Static),
     (0x13600000, .srVectorAddF64X8Static),
     (0x13610000, .srVectorSubF64X8Static),
     (0x13620000, .srVectorMulF64X8Static),
     (0x13630000, .srVectorDivF64X8Static),
     (0x13640000, .srVectorSqrtF64X8Static),
     (0x13650000, .srVectorFmaF64X8Static),
     (0x13800000, .srVectorAddF64X16Static),
     (0x13810000, .srVectorSubF64X16Static)].all (fun r : Nat × Instr =>
      decodeTableWord 32 r.1 == some r.2) = true := by decide +kernel
theorem test_decode_rows_03 :
    [(0x13820000, .srVectorMulF64X16Static),
     (0x13830000, .srVectorDivF64X16Static),
     (0x13840000, .srVectorSqrtF64X16Static),
     (0x13850000, .srVectorFmaF64X16Static),
     (0x14200000, .srVectorAddF32X2Dynamic),
     (0x14210000, .srVectorSubF32X2Dynamic),
     (0x14220000, .srVectorMulF32X2Dynamic),
     (0x14230000, .srVectorDivF32X2Dynamic),
     (0x14240000, .srVectorSqrtF32X2Dynamic),
     (0x14250000, .srVectorFmaF32X2Dynamic),
     (0x14400000, .srVectorAddF32X4Dynamic),
     (0x14410000, .srVectorSubF32X4Dynamic),
     (0x14420000, .srVectorMulF32X4Dynamic),
     (0x14430000, .srVectorDivF32X4Dynamic),
     (0x14440000, .srVectorSqrtF32X4Dynamic),
     (0x14450000, .srVectorFmaF32X4Dynamic),
     (0x14600000, .srVectorAddF32X8Dynamic),
     (0x14610000, .srVectorSubF32X8Dynamic),
     (0x14620000, .srVectorMulF32X8Dynamic),
     (0x14630000, .srVectorDivF32X8Dynamic),
     (0x14640000, .srVectorSqrtF32X8Dynamic),
     (0x14650000, .srVectorFmaF32X8Dynamic),
     (0x14800000, .srVectorAddF32X16Dynamic),
     (0x14810000, .srVectorSubF32X16Dynamic),
     (0x14820000, .srVectorMulF32X16Dynamic),
     (0x14830000, .srVectorDivF32X16Dynamic),
     (0x14840000, .srVectorSqrtF32X16Dynamic),
     (0x14850000, .srVectorFmaF32X16Dynamic)].all (fun r : Nat × Instr =>
      decodeTableWord 32 r.1 == some r.2) = true := by decide +kernel
theorem test_decode_rows_04 :
    [(0x15200000, .srVectorAddF64X2Dynamic),
     (0x15210000, .srVectorSubF64X2Dynamic),
     (0x15220000, .srVectorMulF64X2Dynamic),
     (0x15230000, .srVectorDivF64X2Dynamic),
     (0x15240000, .srVectorSqrtF64X2Dynamic),
     (0x15250000, .srVectorFmaF64X2Dynamic),
     (0x15400000, .srVectorAddF64X4Dynamic),
     (0x15410000, .srVectorSubF64X4Dynamic),
     (0x15420000, .srVectorMulF64X4Dynamic),
     (0x15430000, .srVectorDivF64X4Dynamic),
     (0x15440000, .srVectorSqrtF64X4Dynamic),
     (0x15450000, .srVectorFmaF64X4Dynamic),
     (0x15600000, .srVectorAddF64X8Dynamic),
     (0x15610000, .srVectorSubF64X8Dynamic),
     (0x15620000, .srVectorMulF64X8Dynamic),
     (0x15630000, .srVectorDivF64X8Dynamic),
     (0x15640000, .srVectorSqrtF64X8Dynamic),
     (0x15650000, .srVectorFmaF64X8Dynamic),
     (0x15800000, .srVectorAddF64X16Dynamic),
     (0x15810000, .srVectorSubF64X16Dynamic),
     (0x15820000, .srVectorMulF64X16Dynamic),
     (0x15830000, .srVectorDivF64X16Dynamic),
     (0x15840000, .srVectorSqrtF64X16Dynamic),
     (0x15850000, .srVectorFmaF64X16Dynamic),
     (0x18000000, .udScalarAddF32),
     (0x18010000, .udScalarSubF32),
     (0x18020000, .udScalarMulF32),
     (0x18030000, .udScalarDivF32)].all (fun r : Nat × Instr =>
      decodeTableWord 32 r.1 == some r.2) = true := by decide +kernel
theorem test_decode_rows_05 :
    [(0x18040000, .udScalarSqrtF32),
     (0x18050000, .udScalarFmaF32),
     (0x19000000, .udScalarAddF64),
     (0x19010000, .udScalarSubF64),
     (0x19020000, .udScalarMulF64),
     (0x19030000, .udScalarDivF64),
     (0x19040000, .udScalarSqrtF64),
     (0x19050000, .udScalarFmaF64),
     (0x1A200000, .udVectorAddF32X2Static),
     (0x1A210000, .udVectorSubF32X2Static),
     (0x1A220000, .udVectorMulF32X2Static),
     (0x1A230000, .udVectorDivF32X2Static),
     (0x1A240000, .udVectorSqrtF32X2Static),
     (0x1A250000, .udVectorFmaF32X2Static),
     (0x1A400000, .udVectorAddF32X4Static),
     (0x1A410000, .udVectorSubF32X4Static),
     (0x1A420000, .udVectorMulF32X4Static),
     (0x1A430000, .udVectorDivF32X4Static),
     (0x1A440000, .udVectorSqrtF32X4Static),
     (0x1A450000, .udVectorFmaF32X4Static),
     (0x1A600000, .udVectorAddF32X8Static),
     (0x1A610000, .udVectorSubF32X8Static),
     (0x1A620000, .udVectorMulF32X8Static),
     (0x1A630000, .udVectorDivF32X8Static),
     (0x1A640000, .udVectorSqrtF32X8Static),
     (0x1A650000, .udVectorFmaF32X8Static),
     (0x1A800000, .udVectorAddF32X16Static),
     (0x1A810000, .udVectorSubF32X16Static)].all (fun r : Nat × Instr =>
      decodeTableWord 32 r.1 == some r.2) = true := by decide +kernel
theorem test_decode_rows_06 :
    [(0x1A820000, .udVectorMulF32X16Static),
     (0x1A830000, .udVectorDivF32X16Static),
     (0x1A840000, .udVectorSqrtF32X16Static),
     (0x1A850000, .udVectorFmaF32X16Static),
     (0x1B200000, .udVectorAddF64X2Static),
     (0x1B210000, .udVectorSubF64X2Static),
     (0x1B220000, .udVectorMulF64X2Static),
     (0x1B230000, .udVectorDivF64X2Static),
     (0x1B240000, .udVectorSqrtF64X2Static),
     (0x1B250000, .udVectorFmaF64X2Static),
     (0x1B400000, .udVectorAddF64X4Static),
     (0x1B410000, .udVectorSubF64X4Static),
     (0x1B420000, .udVectorMulF64X4Static),
     (0x1B430000, .udVectorDivF64X4Static),
     (0x1B440000, .udVectorSqrtF64X4Static),
     (0x1B450000, .udVectorFmaF64X4Static),
     (0x1B600000, .udVectorAddF64X8Static),
     (0x1B610000, .udVectorSubF64X8Static),
     (0x1B620000, .udVectorMulF64X8Static),
     (0x1B630000, .udVectorDivF64X8Static),
     (0x1B640000, .udVectorSqrtF64X8Static),
     (0x1B650000, .udVectorFmaF64X8Static),
     (0x1B800000, .udVectorAddF64X16Static),
     (0x1B810000, .udVectorSubF64X16Static),
     (0x1B820000, .udVectorMulF64X16Static),
     (0x1B830000, .udVectorDivF64X16Static),
     (0x1B840000, .udVectorSqrtF64X16Static),
     (0x1B850000, .udVectorFmaF64X16Static)].all (fun r : Nat × Instr =>
      decodeTableWord 32 r.1 == some r.2) = true := by decide +kernel
theorem test_decode_rows_07 :
    [(0x1C200000, .udVectorAddF32X2Dynamic),
     (0x1C210000, .udVectorSubF32X2Dynamic),
     (0x1C220000, .udVectorMulF32X2Dynamic),
     (0x1C230000, .udVectorDivF32X2Dynamic),
     (0x1C240000, .udVectorSqrtF32X2Dynamic),
     (0x1C250000, .udVectorFmaF32X2Dynamic),
     (0x1C400000, .udVectorAddF32X4Dynamic),
     (0x1C410000, .udVectorSubF32X4Dynamic),
     (0x1C420000, .udVectorMulF32X4Dynamic),
     (0x1C430000, .udVectorDivF32X4Dynamic),
     (0x1C440000, .udVectorSqrtF32X4Dynamic),
     (0x1C450000, .udVectorFmaF32X4Dynamic),
     (0x1C600000, .udVectorAddF32X8Dynamic),
     (0x1C610000, .udVectorSubF32X8Dynamic),
     (0x1C620000, .udVectorMulF32X8Dynamic),
     (0x1C630000, .udVectorDivF32X8Dynamic),
     (0x1C640000, .udVectorSqrtF32X8Dynamic),
     (0x1C650000, .udVectorFmaF32X8Dynamic),
     (0x1C800000, .udVectorAddF32X16Dynamic),
     (0x1C810000, .udVectorSubF32X16Dynamic),
     (0x1C820000, .udVectorMulF32X16Dynamic),
     (0x1C830000, .udVectorDivF32X16Dynamic),
     (0x1C840000, .udVectorSqrtF32X16Dynamic),
     (0x1C850000, .udVectorFmaF32X16Dynamic),
     (0x1D200000, .udVectorAddF64X2Dynamic),
     (0x1D210000, .udVectorSubF64X2Dynamic),
     (0x1D220000, .udVectorMulF64X2Dynamic),
     (0x1D230000, .udVectorDivF64X2Dynamic)].all (fun r : Nat × Instr =>
      decodeTableWord 32 r.1 == some r.2) = true := by decide +kernel
theorem test_decode_rows_08 :
    [(0x1D240000, .udVectorSqrtF64X2Dynamic),
     (0x1D250000, .udVectorFmaF64X2Dynamic),
     (0x1D400000, .udVectorAddF64X4Dynamic),
     (0x1D410000, .udVectorSubF64X4Dynamic),
     (0x1D420000, .udVectorMulF64X4Dynamic),
     (0x1D430000, .udVectorDivF64X4Dynamic),
     (0x1D440000, .udVectorSqrtF64X4Dynamic),
     (0x1D450000, .udVectorFmaF64X4Dynamic),
     (0x1D600000, .udVectorAddF64X8Dynamic),
     (0x1D610000, .udVectorSubF64X8Dynamic),
     (0x1D620000, .udVectorMulF64X8Dynamic),
     (0x1D630000, .udVectorDivF64X8Dynamic),
     (0x1D640000, .udVectorSqrtF64X8Dynamic),
     (0x1D650000, .udVectorFmaF64X8Dynamic),
     (0x1D800000, .udVectorAddF64X16Dynamic),
     (0x1D810000, .udVectorSubF64X16Dynamic),
     (0x1D820000, .udVectorMulF64X16Dynamic),
     (0x1D830000, .udVectorDivF64X16Dynamic),
     (0x1D840000, .udVectorSqrtF64X16Dynamic),
     (0x1D850000, .udVectorFmaF64X16Dynamic),
     (0x20000000, .srArrayAddF32),
     (0x20010000, .srArraySubF32),
     (0x20020000, .srArrayMulF32),
     (0x20030000, .srArrayDivF32),
     (0x20040000, .srArraySqrtF32),
     (0x20050000, .srArrayFmaF32),
     (0x21000000, .srArrayAddF64),
     (0x21010000, .srArraySubF64)].all (fun r : Nat × Instr =>
      decodeTableWord 32 r.1 == some r.2) = true := by decide +kernel
theorem test_decode_rows_09 :
    [(0x21020000, .srArrayMulF64),
     (0x21030000, .srArrayDivF64),
     (0x21040000, .srArraySqrtF64),
     (0x21050000, .srArrayFmaF64),
     (0x28000000, .udArrayAddF32),
     (0x28010000, .udArraySubF32),
     (0x28020000, .udArrayMulF32),
     (0x28030000, .udArrayDivF32),
     (0x28040000, .udArraySqrtF32),
     (0x28050000, .udArrayFmaF32),
     (0x29000000, .udArrayAddF64),
     (0x29010000, .udArraySubF64),
     (0x29020000, .udArrayMulF64),
     (0x29030000, .udArrayDivF64),
     (0x29040000, .udArraySqrtF64),
     (0x29050000, .udArrayFmaF64),
     (0x30000000, .primTwosumF32),
     (0x30010000, .primTwoprodF32),
     (0x30020000, .primSrroundF32),
     (0x30030000, .primUdroundF32),
     (0x30200000, .primTwosumF32X2),
     (0x30210000, .primTwoprodF32X2),
     (0x30220000, .primSrroundF32X2),
     (0x30230000, .primUdroundF32X2),
     (0x30400000, .primTwosumF32X4),
     (0x30410000, .primTwoprodF32X4),
     (0x30420000, .primSrroundF32X4),
     (0x30430000, .primUdroundF32X4)].all (fun r : Nat × Instr =>
      decodeTableWord 32 r.1 == some r.2) = true := by decide +kernel
theorem test_decode_rows_10 :
    [(0x30600000, .primTwosumF32X8),
     (0x30610000, .primTwoprodF32X8),
     (0x30620000, .primSrroundF32X8),
     (0x30630000, .primUdroundF32X8),
     (0x30800000, .primTwosumF32X16),
     (0x30810000, .primTwoprodF32X16),
     (0x30820000, .primSrroundF32X16),
     (0x30830000, .primUdroundF32X16),
     (0x31000000, .primTwosumF64),
     (0x31010000, .primTwoprodF64),
     (0x31020000, .primSrroundF64),
     (0x31030000, .primUdroundF64),
     (0x31200000, .primTwosumF64X2),
     (0x31210000, .primTwoprodF64X2),
     (0x31220000, .primSrroundF64X2),
     (0x31230000, .primUdroundF64X2),
     (0x31400000, .primTwosumF64X4),
     (0x31410000, .primTwoprodF64X4),
     (0x31420000, .primSrroundF64X4),
     (0x31430000, .primUdroundF64X4),
     (0x31600000, .primTwosumF64X8),
     (0x31610000, .primTwoprodF64X8),
     (0x31620000, .primSrroundF64X8),
     (0x31630000, .primUdroundF64X8),
     (0x31800000, .primTwosumF64X16),
     (0x31810000, .primTwoprodF64X16),
     (0x31820000, .primSrroundF64X16),
     (0x31830000, .primUdroundF64X16)].all (fun r : Nat × Instr =>
      decodeTableWord 32 r.1 == some r.2) = true := by decide +kernel
theorem test_decode_rows_11 :
    [(0x40000000, .rngSeed),
     (0x40010000, .rngNext),
     (0x40020000, .rngUniformF32),
     (0x40030000, .rngJump),
     (0x40040000, .rngLjump),
     (0x40210000, .rngNextX2),
     (0x40220000, .rngUniformF32X2),
     (0x40230000, .rngJumpX2),
     (0x40240000, .rngLjumpX2),
     (0x40410000, .rngNextX4),
     (0x40420000, .rngUniformF32X4),
     (0x40430000, .rngJumpX4),
     (0x40440000, .rngLjumpX4),
     (0x40610000, .rngNextX8),
     (0x40620000, .rngUniformF32X8),
     (0x40630000, .rngJumpX8),
     (0x40640000, .rngLjumpX8),
     (0x40810000, .rngNextX16),
     (0x40820000, .rngUniformF32X16),
     (0x40830000, .rngJumpX16),
     (0x40840000, .rngLjumpX16),
     (0x41020000, .rngUniformF64),
     (0x41220000, .rngUniformF64X2),
     (0x41420000, .rngUniformF64X4),
     (0x41620000, .rngUniformF64X8),
     (0x41820000, .rngUniformF64X16),
     (0x50000000, .sysNop),
     (0x50010000, .sysProbe)].all (fun r : Nat × Instr =>
      decodeTableWord 32 r.1 == some r.2) = true := by decide +kernel

theorem test_decode_fields :
    decodeCommand (0b0001#4 ++ 0b0#1 ++ 0b00#2 ++ 0b0#1 ++ 0b000#3 ++ 0b00000#5 ++ 0#16) = .ok .srScalarAddF32 ∧
    decodeCommand (0b0001#4 ++ 0b1#1 ++ 0b10#2 ++ 0b1#1 ++ 0b001#3 ++ 0b00010#5 ++ 0#16) = .ok .udVectorMulF64X2Dynamic ∧
    decodeCommand (0b0001#4 ++ 0b0#1 ++ 0b01#2 ++ 0b1#1 ++ 0b011#3 ++ 0b00011#5 ++ 0#16) = .ok .srVectorDivF64X8Static ∧
    decodeCommand (0b0010#4 ++ 0b1#1 ++ 0b00#2 ++ 0b1#1 ++ 0b000#3 ++ 0b00100#5 ++ 0#16) = .ok .udArraySqrtF64 ∧
    decodeCommand (0b0011#4 ++ 0b0#1 ++ 0b00#2 ++ 0b1#1 ++ 0b001#3 ++ 0b00010#5 ++ 0#16) = .ok .primSrroundF64X2 ∧
    decodeCommand (0b0100#4 ++ 0b0#1 ++ 0b00#2 ++ 0b0#1 ++ 0b100#3 ++ 0b00100#5 ++ 0#16) = .ok .rngLjumpX16 ∧
    decodeCommand (0b0101#4 ++ 0b0#1 ++ 0b00#2 ++ 0b0#1 ++ 0b000#3 ++ 0b00001#5 ++ 0#16) = .ok .sysProbe := by decide +kernel
theorem test_illegal_values :
    [0x00000000#64, 0x60000000#64, 0xF0000000#64, 0x10060000#64, 0x101F0000#64, 0x10200000#64, 0x12000000#64,
    0x14000000#64, 0x16420000#64, 0x12A00000#64, 0x10A00000#64, 0x10000001#64, 0x10008000#64, 0x20200000#64,
    0x22000000#64, 0x20060000#64, 0x38000000#64, 0x32000000#64, 0x30040000#64, 0x30A00000#64, 0x41000000#64,
    0x40200000#64, 0x41010000#64, 0x41030000#64, 0x41040000#64, 0x40050000#64, 0x48010000#64, 0x50020000#64,
    0x51000000#64, 0x50200000#64, 0x110000000#64, 0xFFFFFFFFFFFFFFFF#64].all illegal = true := by decide +kernel
theorem test_illegal_by_name :
    decode 0x110000000#64 = .error .upperBits ∧ decode 0x10000001#64 = .error .lowBits ∧
    decode 0x60000000#64 = .error .reservedClass ∧ decode 0x10060000#64 = .error .reservedOp ∧
    decode 0x16420000#64 = .error .reservedFlavor ∧ decode 0x10200000#64 = .error .illegalShape ∧
    decode 0x20200000#64 = .error .unusedField := by decide +kernel

/-! Arithmetic, error-free transforms and rounding decisions (spec/95_test_vectors.md sections 2.4 and 3). -/

theorem test_descriptor_values :
    [Kind.f32, .f64].all (fun k =>
      val k (one k) == 1 && val k (two k) == 2 && val k (oneMinusEps k) == 1 - pow2Rat (-(k.mant : Int)) &&
      expAll k == 2 ^ k.expBits - 1 && 1 + k.expBits + k.mant == k.width && isInf k (posInf k) &&
      isNan k (canonNan k) && signMask k ^^^ expMask k ^^^ mantMask k == BitVec.allOnes k.width) = true := by
  decide +kernel
theorem test_fadd :
    (decide (fadd .f32 (0x3F800001#32) (0x33800000#32) = (0x3F800002#32))) = true ∧
    (decide (fadd .f32 (0x7F7FFFFF#32) (0x72FFFFFF#32) = (0x7F7FFFFF#32))) = true ∧
    (decide (fadd .f32 (0x80000000#32) (0x80000000#32) = (0x80000000#32))) = true ∧
    (decide (fadd .f32 (0x7F800000#32) (0xFF800000#32) = (0x7FC00000#32))) = true := by decide +kernel
theorem test_fsub_fmul :
    (decide (fsub .f32 (0x3F800000#32) (0x7FC00000#32) = (0x7FC00000#32))) = true ∧
    (decide (fmul .f32 (0x00000000#32) (0x7F800000#32) = (0x7FC00000#32))) = true ∧
    (decide (fmul .f32 (0x00000003#32) (0x3F000000#32) = (0x00000002#32))) = true ∧
    (decide (fmul .f32 (0x80000001#32) (0x3F000000#32) = (0x80000000#32))) = true ∧
    (decide (fmul .f32 (0x5F800000#32) (0x5F800000#32) = (0x7F800000#32))) = true := by decide +kernel
theorem test_fdiv :
    (decide (fdiv .f32 (0x3F800000#32) (0x80000000#32) = (0xFF800000#32))) = true ∧
    (decide (fdiv .f32 (0x00000000#32) (0x00000000#32) = (0x7FC00000#32))) = true ∧
    (decide (fdiv .f32 (0x3F800000#32) (0x40400000#32) = (0x3EAAAAAB#32))) = true ∧
    (decide (fdiv .f64 (0x3FF0000000000000#64) (0x4008000000000000#64) = (0x3FD5555555555555#64))) = true := by decide +kernel
theorem test_fsqrt :
    (decide (fsqrt .f32 (0x80000000#32) = (0x80000000#32))) = true ∧
    (decide (fsqrt .f32 (0xBF800000#32) = (0x7FC00000#32))) = true ∧
    (decide (fsqrt .f32 (0x00000001#32) = (0x1A3504F3#32))) = true ∧
    (decide (fsqrt .f64 (0x4000000000000000#64) = (0x3FF6A09E667F3BCD#64))) = true := by decide +kernel
theorem test_ffma :
    (decide (ffma .f32 (0x3F800001#32) (0x3F800001#32) (0xBF800002#32) = (0x28800000#32))) = true ∧
    (decide (ffma .f32 (0x7F800000#32) (0x00000000#32) (0x3F800000#32) = (0x7FC00000#32))) = true ∧
    (decide (ffma .f32 (0x80000000#32) (0x3F800000#32) (0x80000000#32) = (0x80000000#32))) = true ∧
    (decide (ffma .f32 (0x7F000000#32) (0x40000000#32) (0xFF800000#32) = (0xFF800000#32))) = true := by decide +kernel
theorem test_compare :
    (feq .f32 (0x00000000#32) (0x80000000#32) == true) = true ∧
    (fge .f32 (0x7FC00000#32) (0x3F800000#32) == false) = true ∧
    (flt .f32 (0xBF800000#32) (0x00000001#32) == true) = true := by decide +kernel
theorem test_pow2 :
    (decide (pow2 .f32 (-127) = (0x00400000#32))) = true ∧
    (decide (pow2 .f32 (-149) = (0x00000001#32))) = true ∧
    (decide (pow2 .f64 (-1074) = (0x0000000000000001#64))) = true ∧
    (decide (pow2 .f64 (1023) = (0x7FE0000000000000#64))) = true := by decide +kernel
theorem test_classes :
    (((isZero .f32 (0x80000000#32))) && (isNumber .f32 (0x80000000#32) == false) && decide (getExponent .f32 (0x80000000#32) = (-126))) = true ∧
    (((isSubnormal .f32 (0x807FFFFF#32))) && (isNumber .f32 (0x807FFFFF#32) == true) && decide (getExponent .f32 (0x807FFFFF#32) = (-126))) = true ∧
    (((isNan .f32 (0x7FC00000#32))) && (isNumber .f32 (0x7FC00000#32) == false) && decide (getExponent .f32 (0x7FC00000#32) = (128))) = true ∧
    (((isNormal .f64 (0x0010000000000000#64))) && (isNumber .f64 (0x0010000000000000#64) == true) && decide (getExponent .f64 (0x0010000000000000#64) = (-1022))) = true := by decide +kernel
theorem test_twosum :
    (decide (twosum .f32 (0x3FA00000#32) (0x33C00000#32) = ⟨(0x3FA00001#32), (0xB3000000#32)⟩) && decide (twosum .f32 (0x33C00000#32) (0x3FA00000#32) = ⟨(0x3FA00001#32), (0xB3000000#32)⟩)) = true ∧
    (decide (twosum .f32 (0x00800000#32) (0x80000001#32) = ⟨(0x007FFFFF#32), (0x00000000#32)⟩) && decide (twosum .f32 (0x80000001#32) (0x00800000#32) = ⟨(0x007FFFFF#32), (0x00000000#32)⟩)) = true ∧
    (decide (twosum .f32 (0x80000000#32) (0x80000000#32) = ⟨(0x80000000#32), (0x00000000#32)⟩) && decide (twosum .f32 (0x80000000#32) (0x80000000#32) = ⟨(0x80000000#32), (0x00000000#32)⟩)) = true ∧
    (decide (twosum .f64 (0x3FB999999999999A#64) (0x3FC999999999999A#64) = ⟨(0x3FD3333333333334#64), (0xBC80000000000000#64)⟩) && decide (twosum .f64 (0x3FC999999999999A#64) (0x3FB999999999999A#64) = ⟨(0x3FD3333333333334#64), (0xBC80000000000000#64)⟩)) = true := by decide +kernel
theorem test_twoprod :
    (decide (twoprod .f32 (0x3F800001#32) (0x3F800001#32) = ⟨(0x3F800002#32), (0x28800000#32)⟩) && decide (twoprod .f32 (0x3F800001#32) (0x3F800001#32) = ⟨(0x3F800002#32), (0x28800000#32)⟩)) = true ∧
    (decide (twoprod .f32 (0x5F800000#32) (0x5F800000#32) = ⟨(0x7F800000#32), (0xFF800000#32)⟩) && decide (twoprod .f32 (0x5F800000#32) (0x5F800000#32) = ⟨(0x7F800000#32), (0xFF800000#32)⟩)) = true ∧
    (decide (twoprod .f32 (0x8D800000#32) (0x0D800000#32) = ⟨(0x80000000#32), (0x80000000#32)⟩) && decide (twoprod .f32 (0x0D800000#32) (0x8D800000#32) = ⟨(0x80000000#32), (0x80000000#32)⟩)) = true ∧
    (decide (twoprod .f64 (0x3FB999999999999A#64) (0x4008000000000000#64) = ⟨(0x3FD3333333333334#64), (0xBC80000000000000#64)⟩) && decide (twoprod .f64 (0x4008000000000000#64) (0x3FB999999999999A#64) = ⟨(0x3FD3333333333334#64), (0xBC80000000000000#64)⟩)) = true := by decide +kernel
theorem test_srRound :
    (decide (srRound .f32 (0x3FA00000#32) (0x32800000#32) (0x3F600000#32) = (0x34000000#32)) && decide (fadd .f32 (0x3FA00000#32) (0x34000000#32) = (0x3FA00001#32))) = true ∧
    (decide (srRound .f32 (0x3F800000#32) (0xB3000000#32) (0x3F000000#32) = (0xB3800000#32)) && decide (fadd .f32 (0x3F800000#32) (0xB3800000#32) = (0x3F7FFFFF#32))) = true ∧
    (decide (srRound .f32 (0xBF800000#32) (0x33000000#32) (0x3F000000#32) = (0x33800000#32)) && decide (fadd .f32 (0xBF800000#32) (0x33800000#32) = (0xBF7FFFFF#32))) = true ∧
    (decide (srRound .f32 (0x7FC00000#32) (0x33800000#32) (0x3F7FFFFF#32) = (0x00000000#32)) && decide (fadd .f32 (0x7FC00000#32) (0x00000000#32) = (0x7FC00000#32))) = true := by decide +kernel
theorem test_udRound :
    (decide ((udRound .f32 (0x7F7FFFFF#32)).value 0x7FFFFFFFFFFFFFFF#64 = (0x7F7FFFFE#32)) && decide ((udRound .f32 (0x7F7FFFFF#32)).value 0x8000000000000000#64 = (0x7F800000#32)) && ((udRound .f32 (0x7F7FFFFF#32)).draws == true)) = true ∧
    (decide ((udRound .f32 (0x7FA12345#32)).value 0x7FFFFFFFFFFFFFFF#64 = (0x7FA12345#32)) && decide ((udRound .f32 (0x7FA12345#32)).value 0x8000000000000000#64 = (0x7FA12345#32)) && ((udRound .f32 (0x7FA12345#32)).draws == false)) = true ∧
    (decide ((udRound .f64 (0x7FEFFFFFFFFFFFFF#64)).value 0x7FFFFFFFFFFFFFFF#64 = (0x7FEFFFFFFFFFFFFE#64)) && decide ((udRound .f64 (0x7FEFFFFFFFFFFFFF#64)).value 0x8000000000000000#64 = (0x7FF0000000000000#64)) && ((udRound .f64 (0x7FEFFFFFFFFFFFFF#64)).draws == true)) = true := by decide +kernel
theorem test_uniform :
    (decide (uniform .f32 0x000000FFFFFFFFFF#64 = (0x00000000#32)) && decide (uniform .f64 0x000000FFFFFFFFFF#64 = (0x3E6FFFFFFF000000#64))) = true ∧
    (decide (uniform .f32 0x0000010000000000#64 = (0x33800000#32)) && decide (uniform .f64 0x0000010000000000#64 = (0x3E70000000000000#64))) = true ∧
    (decide (uniform .f32 0xD0764D4F4476689F#64 = (0x3F50764D#32)) && decide (uniform .f64 0xD0764D4F4476689F#64 = (0x3FEA0EC9A9E88ECD#64))) = true ∧
    (decide (uniform .f32 0xFFFFFFFFFFFFFFFF#64 = (0x3F7FFFFF#32)) && decide (uniform .f64 0xFFFFFFFFFFFFFFFF#64 = (0x3FEFFFFFFFFFFFFF#64))) = true := by decide +kernel

/-! Kernels, with the draws the spec scripts (spec/96_test_vectors_kernels.md sections 5.7 and 6). -/

theorem test_srAdd_counts :
    (decide ((srAdd .f32 (0x3F800000#32) (0xB3000000#32)).value (BitVec.ofNat 64 (8388608*2^40)) = (0x3F7FFFFF#32)) && decide ((srAdd .f32 (0x3F800000#32) (0xB3000000#32)).value (BitVec.ofNat 64 ((8388608-1)*2^40)) = (0x3F800000#32))) = true ∧
    (decide ((srAdd .f32 (0x3FA00000#32) (0x33C00000#32)).value (BitVec.ofNat 64 (12582912*2^40)) = (0x3FA00000#32)) && decide ((srAdd .f32 (0x3FA00000#32) (0x33C00000#32)).value (BitVec.ofNat 64 ((12582912-1)*2^40)) = (0x3FA00001#32))) = true := by decide +kernel
theorem test_srMul_counts :
    (decide ((srMul .f32 (0x40400000#32) (0x3EAAAAAB#32)).value (BitVec.ofNat 64 (12582912*2^40)) = (0x3F800001#32)) && decide ((srMul .f32 (0x40400000#32) (0x3EAAAAAB#32)).value (BitVec.ofNat 64 ((12582912-1)*2^40)) = (0x3F800000#32))) = true ∧
    (decide ((srMul .f32 (0x3F800001#32) (0x3F800001#32)).value (BitVec.ofNat 64 (16777214*2^40)) = (0x3F800003#32)) && decide ((srMul .f32 (0x3F800001#32) (0x3F800001#32)).value (BitVec.ofNat 64 ((16777214-1)*2^40)) = (0x3F800002#32))) = true := by decide +kernel
theorem test_srDiv_counts :
    (decide ((srDiv .f32 (0x3F800000#32) (0x40400000#32)).value (BitVec.ofNat 64 (11184810*2^40)) = (0x3EAAAAAA#32)) && decide ((srDiv .f32 (0x3F800000#32) (0x40400000#32)).value (BitVec.ofNat 64 ((11184810-1)*2^40)) = (0x3EAAAAAB#32))) = true ∧
    (decide ((srDiv .f32 (0x3F800000#32) (0x41200000#32)).value (BitVec.ofNat 64 (13421773*2^40)) = (0x3DCCCCCC#32)) && decide ((srDiv .f32 (0x3F800000#32) (0x41200000#32)).value (BitVec.ofNat 64 ((13421773-1)*2^40)) = (0x3DCCCCCD#32))) = true := by decide +kernel
theorem test_srSqrt_counts :
    (decide ((srSqrt .f32 (0x40000000#32)).value (BitVec.ofNat 64 (13370913*2^40)) = (0x3FB504F4#32)) && decide ((srSqrt .f32 (0x40000000#32)).value (BitVec.ofNat 64 ((13370913-1)*2^40)) = (0x3FB504F3#32))) = true ∧
    (decide ((srSqrt .f32 (0x40400000#32)).value (BitVec.ofNat 64 (12402074*2^40)) = (0x3FDDB3D8#32)) && decide ((srSqrt .f32 (0x40400000#32)).value (BitVec.ofNat 64 ((12402074-1)*2^40)) = (0x3FDDB3D7#32))) = true := by decide +kernel
theorem test_srFma_counts :
    (decide ((srFma .f32 (0x3F800001#32) (0x3F800001#32) (0x3F800000#32)).value (BitVec.ofNat 64 (16777215*2^40)) = (0x40000002#32)) && decide ((srFma .f32 (0x3F800001#32) (0x3F800001#32) (0x3F800000#32)).value (BitVec.ofNat 64 ((16777215-1)*2^40)) = (0x40000001#32))) = true ∧
    (decide ((srFma .f32 (0x5F800000#32) (0x5F800000#32) (0xFF7FFFFF#32)).value 0x0000000000000000#64 = (0x73800000#32)) && decide ((srFma .f32 (0x5F800000#32) (0x5F800000#32) (0xFF7FFFFF#32)).value 0x7FFFFFFFFFFFFFFF#64 = (0x73800000#32)) && decide ((srFma .f32 (0x5F800000#32) (0x5F800000#32) (0xFF7FFFFF#32)).value 0x8000000000000000#64 = (0x73800000#32)) && decide ((srFma .f32 (0x5F800000#32) (0x5F800000#32) (0xFF7FFFFF#32)).value 0xFFFFFFFFFFFFFFFF#64 = (0x73800000#32)) && ((srFma .f32 (0x5F800000#32) (0x5F800000#32) (0xFF7FFFFF#32)).draws == true) && decide ((fmaResidual .f32 (0x5F800000#32) (0x5F800000#32) (0xFF7FFFFF#32)) = ⟨(0x73800000#32), (0x7FC00000#32)⟩)) = true := by decide +kernel
theorem test_udAdd :
    (decide ((udAdd .f32 (0x3F800000#32) (0x3F800000#32)).value 0x7FFFFFFFFFFFFFFF#64 = (0x3FFFFFFF#32)) && decide ((udAdd .f32 (0x3F800000#32) (0x3F800000#32)).value 0x8000000000000000#64 = (0x40000001#32)) && ((udAdd .f32 (0x3F800000#32) (0x3F800000#32)).draws == true)) = true ∧
    (decide ((udAdd .f32 (0x7F000000#32) (0x7EFFFFFF#32)).value 0x7FFFFFFFFFFFFFFF#64 = (0x7F800000#32)) && decide ((udAdd .f32 (0x7F000000#32) (0x7EFFFFFF#32)).value 0x8000000000000000#64 = (0x7F800000#32)) && ((udAdd .f32 (0x7F000000#32) (0x7EFFFFFF#32)).draws == false)) = true := by decide +kernel
theorem test_udSub :
    (decide ((udSub .f32 (0x00000002#32) (0x00000001#32)).value 0x7FFFFFFFFFFFFFFF#64 = (0x00000000#32)) && decide ((udSub .f32 (0x00000002#32) (0x00000001#32)).value 0x8000000000000000#64 = (0x00000002#32)) && ((udSub .f32 (0x00000002#32) (0x00000001#32)).draws == true)) = true ∧
    (decide ((udSub .f32 (0x80000002#32) (0x80000001#32)).value 0x7FFFFFFFFFFFFFFF#64 = (0x80000000#32)) && decide ((udSub .f32 (0x80000002#32) (0x80000001#32)).value 0x8000000000000000#64 = (0x80000002#32)) && ((udSub .f32 (0x80000002#32) (0x80000001#32)).draws == true)) = true := by decide +kernel
theorem test_udMul :
    (decide ((udMul .f32 (0x3F800000#32) (0x3F7FFFFF#32)).value 0x7FFFFFFFFFFFFFFF#64 = (0x3F7FFFFE#32)) && decide ((udMul .f32 (0x3F800000#32) (0x3F7FFFFF#32)).value 0x8000000000000000#64 = (0x3F800000#32)) && ((udMul .f32 (0x3F800000#32) (0x3F7FFFFF#32)).draws == true)) = true ∧
    (decide ((udMul .f64 (0x7FEFFFFFFFFFFFFF#64) (0x3FF0000000000000#64)).value 0x7FFFFFFFFFFFFFFF#64 = (0x7FEFFFFFFFFFFFFE#64)) && decide ((udMul .f64 (0x7FEFFFFFFFFFFFFF#64) (0x3FF0000000000000#64)).value 0x8000000000000000#64 = (0x7FF0000000000000#64)) && ((udMul .f64 (0x7FEFFFFFFFFFFFFF#64) (0x3FF0000000000000#64)).draws == true)) = true := by decide +kernel
theorem test_udDiv :
    (decide ((udDiv .f32 (0x3F800000#32) (0x40400000#32)).value 0x7FFFFFFFFFFFFFFF#64 = (0x3EAAAAAA#32)) && decide ((udDiv .f32 (0x3F800000#32) (0x40400000#32)).value 0x8000000000000000#64 = (0x3EAAAAAC#32)) && ((udDiv .f32 (0x3F800000#32) (0x40400000#32)).draws == true)) = true ∧
    (decide ((udDiv .f32 (0x3F800000#32) (0x80000000#32)).value 0x7FFFFFFFFFFFFFFF#64 = (0xFF800000#32)) && decide ((udDiv .f32 (0x3F800000#32) (0x80000000#32)).value 0x8000000000000000#64 = (0xFF800000#32)) && ((udDiv .f32 (0x3F800000#32) (0x80000000#32)).draws == false)) = true := by decide +kernel
theorem test_udSqrt :
    (decide ((udSqrt .f32 (0xBF800000#32)).value 0x7FFFFFFFFFFFFFFF#64 = (0x7FC00000#32)) && decide ((udSqrt .f32 (0xBF800000#32)).value 0x8000000000000000#64 = (0x7FC00000#32)) && ((udSqrt .f32 (0xBF800000#32)).draws == false)) = true ∧
    (decide ((udSqrt .f64 (0x4000000000000000#64)).value 0x7FFFFFFFFFFFFFFF#64 = (0x3FF6A09E667F3BCC#64)) && decide ((udSqrt .f64 (0x4000000000000000#64)).value 0x8000000000000000#64 = (0x3FF6A09E667F3BCE#64)) && ((udSqrt .f64 (0x4000000000000000#64)).draws == true)) = true := by decide +kernel
theorem test_udFma :
    (decide ((udFma .f32 (0x40000000#32) (0x40400000#32) (0x00000000#32)).value 0x7FFFFFFFFFFFFFFF#64 = (0x40C00000#32)) && decide ((udFma .f32 (0x40000000#32) (0x40400000#32) (0x00000000#32)).value 0x8000000000000000#64 = (0x40C00000#32)) && ((udFma .f32 (0x40000000#32) (0x40400000#32) (0x00000000#32)).draws == false)) = true ∧
    (decide ((udFma .f64 (0x3FB999999999999A#64) (0x4008000000000000#64) (0x3FF0000000000000#64)).value 0x7FFFFFFFFFFFFFFF#64 = (0x3FF4CCCCCCCCCCCC#64)) && decide ((udFma .f64 (0x3FB999999999999A#64) (0x4008000000000000#64) (0x3FF0000000000000#64)).value 0x8000000000000000#64 = (0x3FF4CCCCCCCCCCCE#64)) && ((udFma .f64 (0x3FB999999999999A#64) (0x4008000000000000#64) (0x3FF0000000000000#64)).draws == true)) = true := by decide +kernel

/-! The random stream (spec/95_test_vectors.md section 4). -/

theorem test_seedState : (decide (seedState Config.prng 0x000000000000002A#64 = ⟨0xBDD732262FEB6E95#64, 0x28EFE333B266F103#64, 0x47526757130F9F52#64, 0x581CE1FF0E4AE394#64⟩)) = true := by decide +kernel
theorem test_jump : jump Config.prng ⟨0xCC58F5A5B5B0FB99#64, 0x23F3C3F0F216EB87#64, 0x6E76F3AB2BB36686#64, 0x821B4A2893A27915#64⟩ =
    ⟨0x53E1C0A63C7D0015#64, 0xF7113A9159C8BB07#64, 0x8AF5B6557866F613#64, 0xBCA4B06C9721E6BE#64⟩ := by decide +kernel
theorem test_ljump : ljump Config.prng ⟨0x53E1C0A63C7D0015#64, 0xF7113A9159C8BB07#64, 0x8AF5B6557866F613#64, 0xBCA4B06C9721E6BE#64⟩ =
    ⟨0x3A11DB9FF8E7148C#64, 0x62D0950E9A860336#64, 0x5545A9E042630AFB#64, 0x388B57E49C6DAF8A#64⟩ := by decide +kernel

/-! One command each (spec/95_test_vectors.md 4.5, spec/96_test_vectors_kernels.md 5 to 7). -/

theorem test_rng_seed :
    (after .rngSeed (blank 0)).streams[1] =
      ⟨0x81746704FDE896B5#64, 0x645E944932DAE0AE#64, 0xF4776829231C282C#64, 0x2393F9798732DBA1#64⟩ ∧
    readRegister 2 (after .rngSeed { blank 0 with rngInit := false }) = 4#64 := by decide +kernel
theorem test_rng_next_initialises :
    (after .rngNext { blank 0 with rngInit := false, seedOvrEn := true, seedOvr := 42#64 }).res[0] =
      0xD0764D4F4476689F#64 ∧
    (after .rngNext { blank 0 with rngInit := false, seedOvrEn := true, seedOvr := 42#64, tid := 1#16 }).res[0] =
      0x02019A87BFC0BB07#64 := by decide +kernel
theorem test_rng_uniform_zero_extends :
    (after .rngUniformF32X2 (blank 0xD0764D4F4476689F#64)).res[1] = 0x3F50764D#64 ∧
    (after .rngUniformF32X2 (blank 0xD0764D4F4476689F#64)).res[2] = 7#64 ∧
    (after .rngUniformF64 (blank 0xD0764D4F4476689F#64)).res[0] = 0x3FEA0EC9A9E88ECD#64 := by decide +kernel
theorem test_rng_jump_lanes :
    (after .rngJumpX2 (blank 1)).streams[1] = jump Config.prng (streamOf 1) ∧
    (after .rngJumpX2 (blank 1)).streams[2] = streamOf 1 ∧
    (after .rngLjump (blank 1)).streams[0] = ljump Config.prng (streamOf 1) := by decide +kernel
theorem test_prim_twosum_lanes :
    (after .primTwosumF32X2 (withLanes 0x3FA00000#64 0x33C00000#64 0#64 (blank 0))).res[1] = 0x3FA00001#64 ∧
    (after .primTwosumF32X2 (withLanes 0x3FA00000#64 0x33C00000#64 0#64 (blank 0))).resx[1] = 0xB3000000#64 ∧
    (after .primTwosumF32X2 (withLanes 0x3FA00000#64 0x33C00000#64 0#64 (blank 0))).resx[2] = 9#64 := by decide +kernel
theorem test_prim_twoprod :
    (after .primTwoprodF64 (withLanes 0x3FB999999999999A#64 0x4008000000000000#64 0#64 (blank 0))).res[0] =
      0x3FD3333333333334#64 ∧
    (after .primTwoprodF64 (withLanes 0x3FB999999999999A#64 0x4008000000000000#64 0#64 (blank 0))).resx[0] =
      0xBC80000000000000#64 := by decide +kernel
theorem test_prim_srround :
    (after .primSrroundF32 (withLanes 0x3F800000#64 0xB3000000#64 0x3F000000#64 (blank 0))).res[0] = 0xB3800000#64 ∧
    (after .primSrroundF32 (withLanes 0x3F800000#64 0xB3000000#64 0x3F000000#64 (blank 0))).streams[0] = streamOf 0 := by
  decide +kernel
theorem test_prim_udround :
    (after .primUdroundF32 (withLanes 0x7F7FFFFF#64 0#64 0#64 (blank 0x8000000000000000#64))).res[0] = 0x7F800000#64 ∧
    (after .primUdroundF32 (withLanes 0#64 0#64 0#64 (blank 1))).streams[0] = streamOf 1 := by decide +kernel
theorem test_scalar_add_draws :
    (after .srScalarAddF32 (withLanes 0x3FA00000#64 0x33800000#64 0#64 (blank 0x8000000000000000#64))).res[0] =
      0x3FA00001#64 ∧
    (after .srScalarAddF32 (withLanes 0x3FA00000#64 0x33800000#64 0#64 (blank 0x7FFFFFFFFFFFFFFF#64))).res[0] =
      0x3FA00000#64 ∧
    (after .srScalarAddF32 (withLanes 0x3FA00000#64 0x33800000#64 0#64 (blank 1))).streams[0] =
      advance Config.prng (streamOf 1) := by decide +kernel
theorem test_scalar_add_nan_draws_nothing :
    (after .srScalarAddF32 (withLanes 0x7FC00000#64 0x3F800000#64 0#64 (blank 1))).res[0] = 0x7FC00000#64 ∧
    (after .srScalarAddF32 (withLanes 0x7FC00000#64 0x3F800000#64 0#64 (blank 1))).streams[0] = streamOf 1 := by
  decide +kernel
theorem test_static_writes_its_lanes :
    (after .udVectorMulF64X2Static (withLanes 0x3FF0000000000000#64 0x3FF0000000000000#64 0#64
      (blank 0x8000000000000000#64))).res[1] = 0x3FF0000000000001#64 ∧
    (after .udVectorMulF64X2Static (withLanes 0x3FF0000000000000#64 0x3FF0000000000000#64 0#64
      (blank 0x8000000000000000#64))).res[2] = 7#64 ∧
    readRegister 1 (after .udVectorMulF64X2Static (blank 0)) = 0x3402#64 := by decide +kernel
theorem test_dynamic_writes_memory :
    readElement .f64 (after .udVectorMulF64X2Dynamic { withLanes 0x3FF0000000000000#64 0x3FF0000000000000#64 0#64
      (blank 0x8000000000000000#64) with dst := 0x1FF0#64 }).mem 0x1FF8 = 0x3FF0000000000001#64 ∧
    (after .udVectorMulF64X2Dynamic { withLanes 0x3FF0000000000000#64 0x3FF0000000000000#64 0#64
      (blank 0x8000000000000000#64) with dst := 0x1FF0#64 }).res[0] = 7#64 := by decide +kernel
theorem test_dynamic_rejections :
    readRegister 1 (after .udVectorMulF64X2Dynamic { blank 0 with dst := 0x1004#64 }) = 0x20#64 ∧
    readRegister 1 (after .udVectorMulF64X2Dynamic { blank 0 with dst := 0x1FF8#64 }) = 0x30#64 := by decide +kernel
theorem test_array_rejections :
    readRegister 1 (after .srArrayAddF32 (withBuffers 4 0x1002 0x3000 0x1204 (blank 0))) = 0x20#64 ∧
    readRegister 1 (after .srArrayAddF32 (withBuffers 4 0x1000 0x3000 0x1204 (blank 0))) = 0x30#64 ∧
    readRegister 1 (after .srArrayAddF32 (withBuffers 4 0x1000 0x1FE8 0x1FF0 (blank 0))) = 0x40#64 ∧
    readRegister 1 (after .srArrayAddF32 (withBuffers (BitVec.ofNat 64 (2 ^ 62)) 0x1000 0x1000 0x1000 (blank 0))) =
      0x30#64 ∧
    readRegister 1 (after .srArrayAddF32 (withBuffers 0 0x1001 0x7777 0x3 (blank 0))) = 0x3402#64 := by decide +kernel
theorem test_array_in_place :
    readElement .f32 (after .udArraySqrtF32 { withBuffers 2 0x1000 0 0x1000 (blank 0x8000000000000000#64) with
      mem := writeElement .f32 (writeElement .f32 [] 0x1000 0x3F800000#32) 0x1004 0x3F800000#32 }).mem 0x1004 =
      0x3F800001#32 := by decide +kernel
theorem test_status_and_hwcfg :
    readRegister 1 (after .sysProbe (blank 0)) = 0x3402#64 ∧
    readRegister 1 (after .sysProbe (after .sysProbe (blank 0))) = 0x3402#64 ∧
    readRegister 1 (after .sysNop (blank 0)) = 0#64 ∧
    readRegister 1 (after .sysProbe { blank 0 with
      params := { Config.params with hwLanes32 := .four, hwLanes64 := .two } }) = 0x1202#64 ∧
    hwcfg { Config.params with hwLanes32 := .four, hwLanes64 := .two } = 0x100112#64 := by decide +kernel
theorem test_byte_order :
    writeElement .f32 [] 0x1000 0x3FA00001#32 = [(0x1000, 1#8), (0x1002, 0xA0#8), (0x1003, 0x3F#8)] ∧
    writeElement .f64 [] 0x1008 0x3FD3333333333334#64 =
      [(0x1008, 0x34#8), (0x1009, 0x33#8), (0x100A, 0x33#8), (0x100B, 0x33#8), (0x100C, 0x33#8), (0x100D, 0x33#8),
       (0x100E, 0xD3#8), (0x100F, 0x3F#8)] := by decide +kernel
theorem test_host_actions :
    (afterHost (.writeReg 0 0x10060000#64) (blank 0)).err = .illegal ∧
    (afterHost (.readReg 1) (blank 0)).readback = [0#64] ∧
    (afterHost (.storeByte 0x1000#64 5#8) (blank 0)).mem = [(0x1000, 5#8)] ∧
    (afterHost (.loadByte 0x1FFF#64) (blank 0)).readback = [0#64] := by decide +kernel
theorem test_fetch_word : (step (State.reset.withFetchWord 32 0x50010000)) = exec .sysProbe State.reset := rfl

/-! Witnesses: for each statement with hypotheses, a state and operands that meet them; a statement with
several cases has one for each case. -/

theorem test_witness_StepRunsTheDecodedCommand :
    ({ blank 0 with pending := [.writeReg 0 0x50000000#64] } : State).pending =
      HostAction.writeReg 0 0x50000000#64 :: [] ∧ decode 0x50000000#64 = .ok .sysNop := by decide +kernel
theorem test_witness_IllegalCommandChangesErrOnly :
    ({ blank 0 with pending := [.writeReg 0 0#64] } : State).pending = HostAction.writeReg 0 0#64 :: [] ∧
    ∀ i, 0#64 ≠ encodeCmd i := by
  refine ⟨rfl, fun i => ?_⟩
  cases i <;> decide +kernel
theorem test_witness_ErrorResponseChangesErrOnly :
    (∃ t, step { withBuffers 1 0x1002 0x1000 0x1000 (blank 0) with pending := [.writeReg 0 0x20000000#64] } =
      .next t ∧ t.err ≠ .ok) ∧ decode 0x20000000#64 = .ok .srArrayAddF32 :=
  ⟨⟨_, rfl, by decide +kernel⟩, by decide +kernel⟩
theorem test_witness_CommandFrame :
    (∃ t, exec .srArrayAddF32 (blank 0) = .next t ∧ usesMemory Instr.srArrayAddF32.form = true) ∧
    (∃ t, exec .primTwosumF32 (blank 0) = .next t ∧ usesMemory Instr.primTwosumF32.form = false) ∧
    ∃ t, exec .sysNop (blank 0) = .next t ∧ writesResx Instr.sysNop.form = false :=
  ⟨⟨_, rfl, rfl⟩, ⟨_, rfl, rfl⟩, ⟨_, rfl, rfl⟩⟩
theorem test_witness_TraceHasNoEffect : ∃ t, exec .srVectorAddF32X2Static (blank 0) = .next t := ⟨_, rfl⟩
theorem test_witness_NativeLaneCountsDoNotMatter : ∃ t, exec .srVectorAddF32X2Static (blank 0) = .next t := ⟨_, rfl⟩
theorem test_witness_ScalarKernelResult :
    Instr.srScalarAddF32.form = .arith .sr .none .f32 0 .add ∧
    Instr.udScalarFmaF64.form = .arith .ud .none .f64 0 .fma := by decide
theorem test_witness_StaticVectorResult :
    Instr.srVectorAddF32X2Static.form = .arith .sr .static .f32 1 .add ∧
    Instr.udVectorFmaF64X16Static.form = .arith .ud .static .f64 4 .fma := by decide
theorem test_witness_WidthInvarianceOfResults :
    Instr.srVectorAddF32X2Static.form = .arith .sr .static .f32 1 .add ∧
    Instr.srVectorAddF32X16Static.form = .arith .sr .static .f32 4 .add ∧ Flavor.static ≠ .dynamic ∧
    (∃ t, exec .srVectorAddF32X2Static (blank 0) = .next t) ∧
    (∃ t, exec .srVectorAddF32X16Static (blank 0) = .next t) ∧ (1 : Fin 16).val < 2 ^ 1 ∧ (1 : Fin 16).val < 2 ^ 4 :=
  ⟨rfl, rfl, by decide, ⟨_, rfl⟩, ⟨_, rfl⟩, by decide, by decide⟩
theorem test_witness_DynamicVectorResult :
    Instr.udVectorMulF64X2Dynamic.form = .arith .ud .dynamic .f64 1 .mul ∧ Memory.wf (blank 0).mem = true ∧
    (0x1FF0#64).toNat % Kind.f64.bytes = 0 ∧ (0x1FF0#64).toNat + 2 ^ 1 * Kind.f64.bytes ≤ 2 ^ 64 ∧
    memValid (blank 0).params (0x1FF0#64).toNat (2 ^ 1 * Kind.f64.bytes) = true := by decide +kernel
theorem test_witness_DynamicVectorRejects :
    Instr.udVectorMulF64X2Dynamic.form = .arith .ud .dynamic .f64 1 .mul ∧
    (0x1FF4#64).toNat % Kind.f64.bytes ≠ 0 ∧
    ((0xFFFFFFFFFFFFFFF8#64).toNat % Kind.f64.bytes = 0 ∧
      2 ^ 64 < (0xFFFFFFFFFFFFFFF8#64).toNat + 2 ^ 1 * Kind.f64.bytes) ∧
    ((0x1FF8#64).toNat % Kind.f64.bytes = 0 ∧
      memValid (blank 0).params (0x1FF8#64).toNat (2 ^ 1 * Kind.f64.bytes) = false) := by decide +kernel
theorem test_witness_ArrayResult :
    Instr.srArrayAddF32.form = .array .sr .f32 .add ∧ Memory.wf (blank 0).mem = true ∧
    0 < (4#64).toNat ∧ arrayCheck .add .f32 (withBuffers 4 0x1000 0x1FE0 0x1FF0 (blank 0)) = .ok := by decide +kernel
theorem test_witness_ArrayRejects :
    Instr.srArrayAddF32.form = .array .sr .f32 .add ∧
    (0 < (withBuffers 4 0x1002 0x3000 0x1204 (blank 0)).count.toNat ∧ (0x1002#64).toNat % Kind.f32.bytes ≠ 0) ∧
    (0x1FF4#64).toNat % Kind.f32.bytes = 0 ∧
    (memValid (blank 0).params (0x1FF4#64).toNat (4 * Kind.f32.bytes) = false ∧
      memValid (blank 0).params (0x1FF0#64).toNat (4 * Kind.f32.bytes) = true ∧
      memValid (blank 0).params (0x1FE4#64).toNat (4 * Kind.f32.bytes) = true) ∧
    (0x1FE4#64 ≠ 0x1FF0#64 ∧ (0x1FE4#64).toNat < (0x1FF0#64).toNat + 4 * Kind.f32.bytes ∧
      (0x1FF0#64).toNat < (0x1FE4#64).toNat + 4 * Kind.f32.bytes) ∧
    ¬ (0x1FF0#64).toNat < (0x1FE0#64).toNat + 4 * Kind.f32.bytes := by decide +kernel
theorem test_witness_ArrayOfNoElements :
    Instr.srArrayAddF32.form = .array .sr .f32 .add ∧ (withBuffers 0 0x1001 0x7777 3 (blank 0)).count = 0#64 := by
  decide +kernel
theorem test_witness_ArrayMatchesDynamicVector :
    Instr.udArraySqrtF32.form = .array .ud .f32 .sqrt ∧
    Instr.udVectorSqrtF32X2Dynamic.form = .arith .ud .dynamic .f32 1 .sqrt ∧ Memory.wf (blank 0).mem = true ∧
    (withBuffers 2 0x1000 0 0x1FF8 (blank 0)).count.toNat ≤ 2 ^ 1 ∧
    arrayCheck .sqrt .f32 (withBuffers 2 0x1000 0 0x1FF8 (blank 0)) = .ok ∧
    dynamicCheck .f32 (2 ^ 1) (withBuffers 2 0x1000 0 0x1FF8 (blank 0)) = .ok ∧
    (∀ j, j < 2 → elementOperands .sqrt .f32 j (withBuffers 2 0x1000 0 0x1FF8 (blank 0)) =
      laneOperands .sqrt .f32 (lane j) (withBuffers 2 0x1000 0 0x1FF8 (blank 0))) := by decide +kernel
theorem test_witness_TwosumResult :
    Instr.primTwosumF32.form = .prim .f32 0 .twosum ∧
    Instr.primTwosumF64X16.form = .prim .f64 4 .twosum := by decide
theorem test_witness_TwoprodResult :
    Instr.primTwoprodF32.form = .prim .f32 0 .twoprod ∧
    Instr.primTwoprodF64X16.form = .prim .f64 4 .twoprod := by decide
theorem test_witness_SrroundResult :
    Instr.primSrroundF32.form = .prim .f32 0 .srround ∧
    Instr.primSrroundF64X16.form = .prim .f64 4 .srround := by decide
theorem test_witness_UdroundResult :
    Instr.primUdroundF32.form = .prim .f32 0 .udround ∧
    Instr.primUdroundF64X16.form = .prim .f64 4 .udround := by decide
theorem test_witness_SeedEqualsLazyInitialisation :
    ({ blank 0 with rngInit := false, seedOvrEn := true, seedOvr := 42#64 } : State).seedOvr = (blank 0).seedArg ∧
    (blank 0).tid = (blank 0).streamArg ∧
    ∃ t, exec .rngSeed { blank 0 with rngInit := false, seedOvrEn := true, seedOvr := 42#64 } = .next t :=
  ⟨rfl, rfl, ⟨_, rfl⟩⟩
theorem test_witness_InitStreamsSpacing : 0 + 1 < 16 ∧ 14 + 1 < 16 := by decide
theorem test_witness_LazyInitialisation :
    (blank 0).rngInit = true ∧
    (({ blank 0 with rngInit := false, seedOvrEn := true } : State).rngInit = false ∧
      ({ blank 0 with rngInit := false, seedOvrEn := true } : State).seedOvrEn = true) ∧
    (({ blank 0 with rngInit := false } : State).rngInit = false ∧
      ({ blank 0 with rngInit := false } : State).seedOvrEn = false) := by decide +kernel
theorem test_witness_NextResult :
    Instr.rngNext.form = .rng .next .f32 0 ∧
    Instr.rngNextX16.form = .rng .next .f32 4 := by decide
theorem test_witness_UniformResult :
    Instr.rngUniformF32.form = .rng .uniform .f32 0 ∧
    Instr.rngUniformF64X16.form = .rng .uniform .f64 4 := by decide
theorem test_witness_JumpResult :
    Instr.rngJump.form = .rng .jump .f32 0 ∧
    Instr.rngJumpX16.form = .rng .jump .f32 4 := by decide
theorem test_witness_LjumpResult :
    Instr.rngLjump.form = .rng .ljump .f32 0 ∧
    Instr.rngLjumpX16.form = .rng .ljump .f32 4 := by decide
theorem test_witness_JumpsCommuteWithAdvance : Config.prng.engine = .xoshiro256 := rfl
theorem test_witness_AllZeroStreamIsStuck :
    Config.prng.engine = .xoshiro256 ∧ Config.prng.scrambler = .plusPlus := ⟨rfl, rfl⟩
theorem test_witness_SeedingNeverGivesZero : Config.prng.mixer = .splitMix64 := rfl
theorem test_witness_ProbeResult :
    (blank 0).dstate = .unselected ∧ ({ blank 0 with dstate := .bound } : State).dstate = .bound ∧
    ∃ t, exec .sysProbe State.reset = .next t := ⟨rfl, rfl, ⟨_, rfl⟩⟩
theorem test_witness_WhichCommandsProbe :
    (∃ t, exec .sysProbe (blank 0) = .next t ∧ probes Instr.sysProbe.form = true ∧ t.err = .ok) ∧
    (∃ t, exec .sysNop (blank 0) = .next t ∧ probes Instr.sysNop.form = false) ∧
    (∃ t, exec .srArrayAddF32 (withBuffers 1 0x1002 0x1000 0x1000 (blank 0)) = .next t ∧ t.err ≠ .ok) ∧
    ∃ t, exec .sysProbe { blank 0 with dstate := .bound } = .next t :=
  ⟨⟨_, rfl, rfl, rfl⟩, ⟨_, rfl, rfl⟩, ⟨_, rfl, by decide +kernel⟩, ⟨_, rfl⟩⟩
theorem test_witness_BoundIsTerminal :
    ({ blank 0 with dstate := .bound, pending := [.writeReg 0 0x50000000#64] } : State).pending.head? ≠
      some .resetBlock ∧
    ∃ t, step { blank 0 with dstate := .bound, pending := [.writeReg 0 0x50000000#64] } = .next t :=
  ⟨by decide +kernel, ⟨_, rfl⟩⟩
theorem test_witness_StepKeepsInvariant :
    State.Inv { blank 0 with pending := [.writeReg 0 0x50010000#64] } ∧
    ∃ t, step { blank 0 with pending := [.writeReg 0 0x50010000#64] } = .next t :=
  ⟨⟨rfl, rfl⟩, ⟨_, rfl⟩⟩
theorem test_witness_ParametersNeverChange :
    ∃ t, step { blank 0 with pending := [.resetBlock] } = .next t := ⟨_, rfl⟩
theorem test_witness_ResetValues :
    ({ blank 0 with pending := [.resetBlock] } : State).pending = HostAction.resetBlock :: [] := rfl
theorem test_witness_HostReadChangesNothing :
    ({ blank 0 with pending := [.readReg 191] } : State).pending = HostAction.readReg 191 :: [] := rfl
theorem test_witness_HostWriteThenRead :
    readRegister 2 (writeRegister 2 0xFFFFFFFFFFFFFFFF#64 (blank 0)) = 7#64 ∧
    readRegister 4 (writeRegister 4 0xFFFFFFFFFFFFFFFF#64 (blank 0)) = 0xFFFF#64 ∧
    readRegister 6 (writeRegister 6 0xFFFFFFFFFFFFFFFF#64 (blank 0)) = 0xFFFF#64 ∧
    [3, 5, 7, 11, 16, 31, 32, 47, 48, 63, 128, 131, 191].all (fun n =>
      readRegister n (writeRegister n 0x8000000000000001#64 (blank 0)) == 0x8000000000000001#64) = true ∧
    [1, 12, 13, 15, 64, 79, 80, 95, 96, 127, 192].all (fun n =>
      readRegister n (writeRegister n 0x8000000000000001#64 (blank 0)) == readRegister n (blank 0)) = true := by
  decide +kernel
theorem test_witness_HostWriteLeavesOtherRegisters :
    2 ≠ 0 ∧ 1 ≠ 2 ∧ readRegister 1 (writeRegister 2 7#64 (blank 0)) = readRegister 1 (blank 0) ∧
    readRegister 190 (writeRegister 191 7#64 (blank 0)) = readRegister 190 (blank 0) := by decide +kernel
theorem test_witness_KernelGate :
    gate .add .f32 ⟨0#32, 0x3F800000#32, 0#32⟩ = false ∧ gate .sqrt .f32 ⟨0x3F800000#32, 0#32, 0#32⟩ = true ∧
    gate .fma .f32 ⟨0x3F800000#32, 0x3F800000#32, 0x80000001#32⟩ = true ∧
    (gate .add .f32 ⟨0x3F800000#32, 0xBF800000#32, 0#32⟩ = true ∧
      isNumber .f32 (baseOp .add .f32 ⟨0x3F800000#32, 0xBF800000#32, 0#32⟩) = false) := by decide +kernel
theorem test_witness_SrKernelValue :
    [Op.add, .sub, .mul, .div, .sqrt, .fma].all (fun op =>
      gate op .f32 ⟨0x3F800000#32, 0x80000001#32, 0x7F7FFFFF#32⟩) = true := by decide +kernel
theorem test_witness_UdKernelStep :
    (kernel .ud .add .f32 ⟨0x7F7FFFFF#32, 0x00000001#32, 0#32⟩).draws = true ∧
    (0x8000000000000000#64).msb = true ∧ (0x7FFFFFFFFFFFFFFF#64).msb = false := by decide +kernel
theorem test_witness_RoundingIsNearest :
    isFinite .f32 (roundNearest .f32 (1 / 3) false) = true ∧ isFinite .f32 0x7F7FFFFF#32 = true ∧
    isFinite .f32 0x80000000#32 = true := by decide +kernel
theorem test_witness_RoundingARepresentableValue :
    isNumber .f32 0x00000001#32 = true ∧ isNumber .f32 0x80800000#32 = true ∧
    isNumber .f64 0x7FEFFFFFFFFFFFFF#64 = true := by decide +kernel
theorem test_witness_PowersOfTwo :
    (Kind.emin .f32 - Kind.mant .f32 ≤ -149 ∧ (-149 : Int) ≤ Kind.emax .f32) ∧
    (Kind.emin .f64 - Kind.mant .f64 ≤ 1023 ∧ (1023 : Int) ≤ Kind.emax .f64) := by decide +kernel
theorem test_witness_NanResultsAreCanonical :
    isNan .f32 (fadd .f32 0x7F800000#32 0xFF800000#32) = true ∧
    isNan .f32 (fsub .f32 0x7F800000#32 0x7F800000#32) = true ∧
    isNan .f32 (fmul .f32 0#32 0x7F800000#32) = true ∧ isNan .f32 (fdiv .f32 0#32 0#32) = true ∧
    isNan .f32 (fsqrt .f32 0xBF800000#32) = true ∧ isNan .f32 (ffma .f32 0xFFC12345#32 0#32 0#32) = true := by
  decide +kernel
theorem test_witness_TwosumIsOrderIndependent :
    isFinite .f32 0x7F7FFFFF#32 = true ∧ isFinite .f32 0xFF7FFFFF#32 = true ∧ isFinite .f32 0x80000000#32 = true := by
  decide +kernel
theorem test_witness_PredecessorExponent :
    isNumber .f32 0x01000000#32 = true ∧ mantField .f32 0x01000000#32 = 0 ∧ expField .f32 0x01000000#32 = 2 ∧
    srExponent .f32 0x01000000#32 0x80000001#32 = -126 ∧
    isNumber .f32 0x00800000#32 = true ∧ srExponent .f32 0x00800000#32 0x80000001#32 = -126 := by decide +kernel
theorem test_witness_ExactResultsStay :
    isZero .f32 0x80000000#32 = true ∧ isNan .f32 0x3F800000#32 = false ∧ isInf .f32 0xFF800000#32 = true ∧
    isNan .f32 0xFF800001#32 = true := by decide +kernel
theorem test_witness_SrMovesAtMostOneUlp :
    isNumber .f32 0x7F7FFFFF#32 = true ∧
    (sign .f32 0x73000000#32 = sign .f32 0x7F7FFFFF#32 ∧
      srFinish .f32 ⟨0x7F7FFFFF#32, 0x72800000#32⟩ 0x3F7FFFFF#32 = 0x7F800000#32) ∧
    (sign .f32 0xB3000000#32 ≠ sign .f32 0x3F800000#32 ∧
      srFinish .f32 ⟨0x3F800000#32, 0xB3000000#32⟩ 0x3F000000#32 = 0x3F7FFFFF#32) := by decide +kernel
theorem test_witness_ElementRoundTrip :
    Memory.wf (blank 0).mem = true ∧ 0xFFFFFFFFFFFFFFF8 + Kind.f64.bytes ≤ 2 ^ 64 ∧ 7 < Kind.f64.bytes ∧
    (0xFFFFFFFFFFFFFFF7 : Nat) < 0xFFFFFFFFFFFFFFF8 := by decide +kernel
theorem test_witness_HostStoreToMemory :
    ({ blank 0 with pending := [.storeByte 0x1FFF#64 5#8] } : State).pending =
      HostAction.storeByte 0x1FFF#64 5#8 :: [] ∧
    Memory.wf (blank 0).mem = true ∧ memValid (blank 0).params (0x1FFF#64).toNat 1 = true ∧
    memValid (blank 0).params (0x2000#64).toNat 1 = false := by decide +kernel

end Sys2Proof.Tests
end

section
/-! What every command leaves alone, the step that issues a command, and the parameters along a step:
O3 and O41 (spec/00_scope.md R5, R7; spec/10_state.md R37; spec/46_dispatch.md R234). -/

namespace Sys2Proof.Machine

/-! The frame that all commands share. -/

/-- `t` differs from `s` at most in what some command may write: `RES`, `RESX`, the lane streams, `STATUS`,
`CTRL.RNG_INIT`, data memory and the sample counter. The operand, argument and address registers, `TRACE`
and `SEEDOVR_EN`, the parameters and the host's side of the interface are those of `s`. -/
def KeepsInputs (s t : State) : Prop :=
  t = { s with
    res := t.res, resx := t.resx, streams := t.streams
    dstate := t.dstate, err := t.err, bound32 := t.bound32, bound64 := t.bound64
    rngInit := t.rngInit, mem := t.mem, envSamples := t.envSamples }

theorem KeepsInputs.refl (s : State) : KeepsInputs s s := rfl

theorem KeepsInputs.trans {s t u : State} (hst : KeepsInputs s t) (htu : KeepsInputs t u) :
    KeepsInputs s u := by
  unfold KeepsInputs at hst
  exact Eq.trans htu (by rw [hst])

theorem KeepsInputs.params {s t : State} (h : KeepsInputs s t) : t.params = s.params := by
  unfold KeepsInputs at h
  rw [h]

theorem KeepsInputs.pending {s t : State} (h : KeepsInputs s t) : t.pending = s.pending := by
  unfold KeepsInputs at h
  rw [h]

/-! The shared operations keep the inputs. -/

theorem keepsInputs_respond (c : Response) (s : State) : KeepsInputs s (respond c s) := rfl

theorem keepsInputs_setRes (i : Fin 16) (v : Word) (s : State) : KeepsInputs s (setRes i v s) := rfl

theorem keepsInputs_setStream (i : Fin 16) (v : Stream) (s : State) :
    KeepsInputs s (setStream i v s) := rfl

theorem keepsInputs_setPair (k : Kind) (i : Nat) (p : ErrorPair k) (s : State) :
    KeepsInputs s (setPair k i p s) := rfl

theorem keepsInputs_storeElement (k : Kind) (a : Nat) (v : Pat k) (s : State) :
    KeepsInputs s (storeElement k a v s) := rfl

theorem keepsInputs_seedAll (seed : Word) (idx : BitVec 16) (s : State) :
    KeepsInputs s (seedAll seed idx s) := rfl

theorem keepsInputs_probeAndBind (s : State) : KeepsInputs s (probeAndBind s) := by
  unfold KeepsInputs
  rw [probeAndBind_frame]

theorem keepsInputs_lazyInit (s : State) : KeepsInputs s (lazyInit s) := by
  unfold KeepsInputs
  rw [lazyInit_frame]

theorem keepsInputs_run {w : Nat} (l : Lane w) (i : Fin 16) (s : State) :
    KeepsInputs s (l.run i s).2 := by
  unfold KeepsInputs
  rw [Lane.run_frame]

theorem keepsInputs_runToRes {w : Nat} (l : Lane w) (i : Fin 16) (s : State) :
    KeepsInputs s (runToRes l i s) :=
  (keepsInputs_run l i s).trans (keepsInputs_setRes i _ _)

theorem keepsInputs_runToMem (k : Kind) (l : Lane k.width) (i : Fin 16) (a : Nat) (s : State) :
    KeepsInputs s (runToMem k l i a s) :=
  (keepsInputs_run l i s).trans (keepsInputs_storeElement k a _ _)

/-- The common end of a command: a loop whose every iteration keeps the inputs, then the response. -/
theorem keepsInputs_respond_forLanes {body : Nat → State → State} {s s' : State} (c : Response) (n : Nat)
    (hstart : KeepsInputs s s') (hbody : ∀ i t, KeepsInputs t (body i t)) :
    KeepsInputs s (respond c (forLanes n body s')) :=
  have hloop : KeepsInputs s (forLanes n body s') :=
    forLanes_induct (fun _ => KeepsInputs s) hstart fun i t _ ht => ht.trans (hbody i t)
  hloop.trans (keepsInputs_respond c _)

/-! The kernel shapes with checks, and then every form, keep the inputs. -/

theorem keepsInputs_dynamicKernel (m : Mode) (op : Op) (k : Kind) (w : Nat) (s : State) :
    KeepsInputs s (dynamicKernel m op k w s) := by
  obtain ⟨-, hrun⟩ | ⟨-, hreject⟩ := dynamicKernel_cases m op k w s
  · rw [hrun]
    exact keepsInputs_respond_forLanes _ _ (keepsInputs_probeAndBind s) fun _ _ =>
      keepsInputs_runToMem k _ _ _ _
  · rw [hreject]
    exact keepsInputs_respond _ s

theorem keepsInputs_arrayKernel (m : Mode) (op : Op) (k : Kind) (s : State) :
    KeepsInputs s (arrayKernel m op k s) := by
  obtain ⟨-, hrun⟩ | ⟨-, hreject⟩ := arrayKernel_cases m op k s
  · rw [hrun]
    exact keepsInputs_respond_forLanes _ _ (keepsInputs_probeAndBind s) fun _ _ =>
      keepsInputs_runToMem k _ _ _ _
  · rw [hreject]
    exact keepsInputs_respond _ s

/-- No form of command writes an input (R21, R30, R34 to R37). -/
theorem keepsInputs_formEffect (f : Form) (s : State) : KeepsInputs s (formEffect f s) := by
  have loop {body : Nat → State → State} (n : Nat) (hbody : ∀ i t, KeepsInputs t (body i t)) :
      KeepsInputs s (respond .ok (forLanes n body s)) :=
    keepsInputs_respond_forLanes .ok n (.refl s) hbody
  cases f with
  | arith m flv k lw op =>
    cases flv with
    | none => exact (keepsInputs_runToRes _ _ s).trans (keepsInputs_respond .ok _)
    | static =>
      exact keepsInputs_respond_forLanes .ok _ (keepsInputs_probeAndBind s) fun _ _ =>
        keepsInputs_runToRes _ _ _
    | dynamic => exact keepsInputs_dynamicKernel m op k _ s
  | array m k op => exact keepsInputs_arrayKernel m op k s
  | prim k lw op =>
    cases op with
    | twosum => exact loop _ fun i t => keepsInputs_setPair k i _ t
    | twoprod => exact loop _ fun i t => keepsInputs_setPair k i _ t
    | srround => exact loop _ fun _ t => keepsInputs_setRes _ _ t
    | udround => exact loop _ fun _ t => keepsInputs_runToRes _ _ t
  | rng op k lw =>
    have jumps {body : Nat → State → State} (hbody : ∀ i t, KeepsInputs t (body i t)) :
        KeepsInputs s (respond .ok (forLanes (2 ^ lw) body (lazyInit s))) :=
      keepsInputs_respond_forLanes .ok _ (keepsInputs_lazyInit s) hbody
    cases op with
    | seed => exact (keepsInputs_seedAll _ _ s).trans (keepsInputs_respond .ok _)
    | next => exact loop _ fun _ t => keepsInputs_runToRes _ _ t
    | uniform => exact loop _ fun _ t => keepsInputs_runToRes _ _ t
    | jump => exact jumps fun _ t => keepsInputs_setStream _ _ t
    | ljump => exact jumps fun _ t => keepsInputs_setStream _ _ t
  | sys op =>
    cases op with
    | nop => exact keepsInputs_respond .ok s
    | probe => exact (keepsInputs_probeAndBind s).trans (keepsInputs_respond .ok _)

/-- No command writes an input. -/
theorem exec_keepsInputs {i : Instr} {s t : State} (h : exec i s = .next t) : KeepsInputs s t := by
  rw [exec_eq_effect] at h
  cases h
  exact keepsInputs_formEffect i.form s

/-! A write to `CMD`. -/

/-- A command's value written to `CMD` runs the command (R28, R234). -/
theorem issue_of_decode {v : Word} {i : Instr} (h : decode v = .ok i) (s : State) :
    issue v s = exec i s := by
  simp [issue, h]

/-- Any other value written to `CMD` is answered `ERR_ILLEGAL` (R89, R251). -/
theorem issue_of_error {v : Word} {e : DecodeError} (h : decode v = .error e) (s : State) :
    issue v s = .next (respond .illegal s) := by
  simp [issue, h]

/-- Whatever the host writes to `CMD`, the inputs stay. -/
theorem issue_keepsInputs {v : Word} {s t : State} (h : issue v s = .next t) : KeepsInputs s t := by
  cases hv : decode v with
  | ok i =>
    rw [issue_of_decode hv] at h
    exact exec_keepsInputs h
  | error e =>
    rw [issue_of_error hv] at h
    cases h
    exact keepsInputs_respond .illegal s

/-- The host's next action writes `CMD`: the step issues the value written. -/
theorem step_of_cmdWrite {s : State} {v : Word} {rest : List HostAction}
    (h : s.pending = .writeReg 0 v :: rest) : step s = issue v { s with pending := rest } := by
  rw [step_action h]
  rfl

/-- Settles O3: the step issues the written value, and the frame of every command holds the program. -/
theorem stepRunsTheDecodedCommand : Obligations.StepRunsTheDecodedCommand := by
  intro s v i rest hp hv
  have hstep : step s = exec i { s with pending := rest } := by
    rw [step_of_cmdWrite hp, issue_of_decode hv]
  exact ⟨hstep, fun t ht => (exec_keepsInputs ht).pending⟩

/-! The parameters along a step. -/

theorem writeControl_params (n : Nat) (v : Word) (s : State) :
    (writeControl n v s).params = s.params := by
  unfold writeControl
  split <;> rfl

theorem writeRegister_params (n : Nat) (v : Word) (s : State) :
    (writeRegister n v s).params = s.params := by
  unfold writeRegister
  split_ifs
  · exact writeControl_params n v s
  all_goals rfl

/-- A host store that is not refused writes data memory only (R60). -/
theorem hostStore_next {a : Word} {v : Byte} {s t : State} (h : hostStore a v s = .next t) :
    t = { s with mem := Memory.write s.mem a.toNat v } := by
  unfold hostStore at h
  split at h <;> cases h
  rfl

/-- A host load that is not refused changes only what the host has read (R60). -/
theorem hostLoad_next {a : Word} {s t : State} (h : hostLoad a s = .next t) :
    t = { s with readback := (Memory.read s.mem a.toNat).setWidth 64 :: s.readback } := by
  unfold hostLoad at h
  split at h <;> cases h
  rfl

/-- Reset rebuilds the registers from the parameters and leaves those as they are (R270, R271). -/
theorem resetAction_params (s : State) : (resetAction s).params = s.params := by
  simp only [resetAction, State.resetOf]

/-- No host action changes the implementation parameters (R7), reset included. -/
theorem perform_params {a : HostAction} {s t : State} (h : perform a s = .next t) :
    t.params = s.params := by
  cases a with
  | writeReg n v =>
    simp only [perform] at h
    split at h
    · exact (issue_keepsInputs h).params
    · cases h
      exact writeRegister_params n v s
  | readReg n =>
    obtain rfl := Host.Outcome.next.inj h
    rfl
  | storeByte a v => rw [hostStore_next h]
  | loadByte a => rw [hostLoad_next h]
  | resetBlock =>
    simp only [perform, Host.Outcome.next.injEq] at h
    rw [← h, resetAction_params]

/-- No step changes the implementation parameters (R7). -/
theorem step_params {s t : State} (h : step s = .next t) : t.params = s.params := by
  cases hp : s.pending with
  | nil =>
    rw [step_idle hp] at h
    cases h
    rfl
  | cons a rest =>
    rw [step_action hp] at h
    rw [perform_params h]

/-- Register 12 is `HWCFG`, a function of the parameters alone (R37). -/
theorem readRegister_hwcfg (s : State) : readRegister 12 s = hwcfg s.params := rfl

/-- Settles O41: the parameters stay, and `HWCFG` reads nothing else. -/
theorem parametersNeverChange : Obligations.ParametersNeverChange := by
  intro s t h
  have hparams : t.params = s.params := step_params h
  refine ⟨hparams, ?_⟩
  rw [readRegister_hwcfg, readRegister_hwcfg, hparams]

end Sys2Proof.Machine
end

section
/-! The decoder and the encoder: O1, O4 (spec/10_state.md R28; spec/30_encoding.md R80 to R93). A form's fields
are read back as that form, and the form the decoder reads has the fields it was read from; cutting and
joining a word are inverse. -/

namespace Sys2Proof.Machine

/-! The codes of the fields: a code is decoded to what it encodes, and nothing else decodes to that. -/

theorem decodeMode_eq_iff (b : BitVec 1) (m : Mode) : decodeMode b = m ↔ b = m.code := by
  revert b; cases m <;> decide

theorem decodeKind_eq_iff (b : BitVec 1) (k : Kind) : decodeKind b = k ↔ b = k.code := by
  revert b; cases k <;> decide

theorem decodeFlavor_eq_some_iff (b : BitVec 2) (flv : Flavor) :
    decodeFlavor b = some flv ↔ b = flv.code := by
  revert b; cases flv <;> decide

theorem decodeOp_eq_some_iff (b : BitVec 5) (op : Op) : decodeOp b = some op ↔ b = op.code := by
  revert b; cases op <;> decide

theorem decodePrimOp_eq_some_iff (b : BitVec 5) (op : PrimOp) :
    decodePrimOp b = some op ↔ b = op.code := by
  revert b; cases op <;> decide

theorem decodeRngOp_eq_some_iff (b : BitVec 5) (op : RngOp) :
    decodeRngOp b = some op ↔ b = op.code := by
  revert b; cases op <;> decide

theorem decodeSysOp_eq_some_iff (b : BitVec 5) (op : SysOp) :
    decodeSysOp b = some op ↔ b = op.code := by
  revert b; cases op <;> decide

@[simp] theorem decodeMode_code (m : Mode) : decodeMode m.code = m := (decodeMode_eq_iff _ _).mpr rfl
@[simp] theorem decodeKind_code (k : Kind) : decodeKind k.code = k := (decodeKind_eq_iff _ _).mpr rfl
@[simp] theorem decodeFlavor_code (flv : Flavor) : decodeFlavor flv.code = some flv :=
  (decodeFlavor_eq_some_iff _ _).mpr rfl
@[simp] theorem decodeOp_code (op : Op) : decodeOp op.code = some op :=
  (decodeOp_eq_some_iff _ _).mpr rfl
@[simp] theorem decodePrimOp_code (op : PrimOp) : decodePrimOp op.code = some op :=
  (decodePrimOp_eq_some_iff _ _).mpr rfl
@[simp] theorem decodeRngOp_code (op : RngOp) : decodeRngOp op.code = some op :=
  (decodeRngOp_eq_some_iff _ _).mpr rfl
@[simp] theorem decodeSysOp_code (op : SysOp) : decodeSysOp op.code = some op :=
  (decodeSysOp_eq_some_iff _ _).mpr rfl

@[simp] theorem code_decodeMode (b : BitVec 1) : (decodeMode b).code = b :=
  ((decodeMode_eq_iff b _).mp rfl).symm
@[simp] theorem code_decodeKind (b : BitVec 1) : (decodeKind b).code = b :=
  ((decodeKind_eq_iff b _).mp rfl).symm

/-! Cutting and joining a command word. -/

/-- Bits of a joined word, with its width written as the sum of the field widths. -/
theorem extractLsb'_toWord (f : Fields) (start len : Nat) :
    f.toWord.extractLsb' start len =
      BitVec.extractLsb' (n := 4 + 1 + 2 + 1 + 3 + 5 + 16) start len
        (f.cls ++ f.mode ++ f.flv ++ f.kind ++ f.lw ++ f.op ++ f.zero) := rfl

/-- Cutting a joined word gives its fields back (R81). -/
theorem ofWord_toWord (f : Fields) : Fields.ofWord f.toWord = f := by
  simp only [Fields.ofWord, extractLsb'_toWord, BitVec.extractLsb'_append_eq_of_le,
    BitVec.extractLsb'_append_eq_right, BitVec.extractLsb'_eq_self, Nat.reduceLeDiff, Nat.reduceSub,
    le_refl, tsub_self]

/-- Joining the fields of a word gives the word back: they cover all its bits (R81). -/
theorem toWord_ofWord (w : Command) : (Fields.ofWord w).toWord = w := by
  simp only [Fields.ofWord, Fields.toWord]
  repeat rw [BitVec.extractLsb'_append_extractLsb'_eq_extractLsb' (by rfl)]
  exact BitVec.extractLsb'_eq_self

/-! The form read from fields, class by class, has those fields: what a class does not use is 0. -/

theorem arithForm_fields {f : Fields} {g : Form} (h : f.arithForm = .ok g) :
    g.fields = { f with cls := 1#4, zero := 0#16 } := by
  unfold Fields.arithForm at h
  split at h <;> cases h
  rename_i op flv hop hflv
  simp [Form.fields, (decodeOp_eq_some_iff _ _).mp hop, (decodeFlavor_eq_some_iff _ _).mp hflv]

theorem arrayForm_fields {f : Fields} {g : Form} (h : f.arrayForm = .ok g) :
    g.fields = { f with cls := 2#4, zero := 0#16 } := by
  unfold Fields.arrayForm at h
  split at h
  · cases h
  · rename_i op hop
    split at h <;> cases h
    rename_i hunused
    simp [Form.fields, (decodeOp_eq_some_iff _ _).mp hop, hunused]

theorem primForm_fields {f : Fields} {g : Form} (h : f.primForm = .ok g) :
    g.fields = { f with cls := 3#4, zero := 0#16 } := by
  unfold Fields.primForm at h
  split at h
  · cases h
  · rename_i op hop
    split at h <;> cases h
    rename_i hunused
    simp [Form.fields, (decodePrimOp_eq_some_iff _ _).mp hop, hunused]

theorem rngForm_fields {f : Fields} {g : Form} (h : f.rngForm = .ok g) :
    g.fields = { f with cls := 4#4, zero := 0#16 } := by
  unfold Fields.rngForm at h
  split at h
  · cases h
  · rename_i op hop
    split at h <;> cases h
    rename_i hunused
    simp [Form.fields, (decodeRngOp_eq_some_iff _ _).mp hop, hunused]

theorem sysForm_fields {f : Fields} {g : Form} (h : f.sysForm = .ok g) :
    g.fields = { f with cls := 5#4, zero := 0#16 } := by
  unfold Fields.sysForm at h
  split at h
  · cases h
  · rename_i op hop
    split at h <;> cases h
    rename_i hunused
    simp [Form.fields, (decodeSysOp_eq_some_iff _ _).mp hop, hunused]

/-- The decoder forgets nothing: the form it reads has exactly the fields it was read from. -/
theorem fields_of_form_eq_ok {f : Fields} {g : Form} (h : f.form = .ok g) : g.fields = f := by
  have hrefill {c : BitVec 4} {n : Nat} (hc : f.cls.toNat = n) (hn : c.toNat = n) (hz : f.zero = 0#16)
      (hg : g.fields = { f with cls := c, zero := 0#16 }) : g.fields = f := by
    have hcls : f.cls = c := BitVec.eq_of_toNat_eq (hc.trans hn.symm)
    rw [hg, ← hcls, ← hz]
  unfold Fields.form at h
  split at h
  case isFalse => cases h
  case isTrue hz =>
    split at h
    case h_1 hc => exact hrefill hc rfl hz (arithForm_fields h)
    case h_2 hc => exact hrefill hc rfl hz (arrayForm_fields h)
    case h_3 hc => exact hrefill hc rfl hz (primForm_fields h)
    case h_4 hc => exact hrefill hc rfl hz (rngForm_fields h)
    case h_5 hc => exact hrefill hc rfl hz (sysForm_fields h)
    case h_6 => cases h

/-! Legal forms and commands. -/

/-- A lane width within R81's bounds fits the three bits of its field. -/
theorem toNat_ofNat_laneWidth {lw : Nat} (h : lw ≤ 4) : (BitVec.ofNat 3 lw).toNat = lw := by
  rw [BitVec.toNat_ofNat]
  omega

theorem arithShapeOk_le {flv : Flavor} {lw : Nat} (h : arithShapeOk flv lw = true) : lw ≤ 4 := by
  cases flv <;> simp [arithShapeOk, laneWidthOk] at h <;> omega

theorem rngWidthOk_le {op : RngOp} {lw : Nat} (h : rngWidthOk op lw = true) : lw ≤ 4 := by
  cases op <;> simp [rngWidthOk, laneWidthOk] at h <;> omega

/-- The fields of a legal form are read as that form (R84 to R88). -/
theorem form_fields_of_wellFormed {g : Form} (h : g.wellFormed = true) : g.fields.form = .ok g := by
  cases g with
  | arith m flv k lw op =>
    have hlw := toNat_ofNat_laneWidth (arithShapeOk_le h)
    simp [Form.fields, Fields.form, Fields.arithForm, hlw]
  | array m k op => simp [Form.fields, Fields.form, Fields.arrayForm]
  | prim k lw op =>
    have hlw := toNat_ofNat_laneWidth (of_decide_eq_true h)
    simp [Form.fields, Fields.form, Fields.primForm, hlw]
  | rng op k lw =>
    have hwidth : rngWidthOk op lw = true := (Bool.and_eq_true_iff.mp h).2
    have hlw := toNat_ofNat_laneWidth (rngWidthOk_le hwidth)
    simp [Form.fields, Fields.form, Fields.rngForm, hlw]
  | sys op => simp [Form.fields, Fields.form, Fields.sysForm]

/-- The row of the opcode map found for a command's form is that command's. -/
theorem instr_form (i : Instr) : i.form.instr = some i := by
  cases i <;> rfl

/-- A row found for a form is a row of that form. -/
theorem form_of_instr_eq_some {g : Form} {i : Instr} (h : g.instr = some i) : i.form = g := by
  unfold Form.instr at h
  exact of_decide_eq_true (List.find?_some (p := fun j : Instr => decide (j.form = g)) h)

theorem instr_eq_some_iff {g : Form} {i : Instr} : g.instr = some i ↔ g = i.form := by
  constructor
  · intro h
    exact (form_of_instr_eq_some h).symm
  · rintro rfl
    exact instr_form i

/-- The decoder reads a command exactly from the words whose fields name that command's form (R89). -/
theorem decodeCommand_eq_ok_iff (w : Command) (i : Instr) :
    decodeCommand w = .ok i ↔ (Fields.ofWord w).form = .ok i.form := by
  unfold decodeCommand
  cases (Fields.ofWord w).form with
  | error e => simp
  | ok g =>
    rw [Except.ok.injEq, ← instr_eq_some_iff]
    dsimp only
    cases g.instr <;> simp

/-- A 32-bit word is a command exactly when it is that command's word (R89, R93). -/
theorem decodeCommand_eq_ok_iff_encode (w : Command) (i : Instr) :
    decodeCommand w = .ok i ↔ w = encode i := by
  rw [decodeCommand_eq_ok_iff]
  constructor
  · intro h
    rw [encode, fields_of_form_eq_ok h, toWord_ofWord]
  · rintro rfl
    rw [encode, ofWord_toWord]
    exact form_fields_of_wellFormed (instr_wellFormed i)

/-- A 64-bit value with bits 63..32 zero is its own low half, extended (R28). -/
theorem upperBits_zero_and_low_iff (v : Word) (w : Command) :
    v.extractLsb' 32 32 = 0#32 ∧ v.setWidth 32 = w ↔ v = w.setWidth 64 := by
  simp only [← BitVec.toNat_inj, BitVec.extractLsb'_toNat, BitVec.toNat_setWidth, BitVec.toNat_ofNat,
    Nat.shiftRight_eq_div_pow]
  omega

/-- Settles O1: the decoder and the encoder are inverse on words, and the upper half must be zero. -/
theorem commandsAreExactlyTheirWords : Obligations.CommandsAreExactlyTheirWords := by
  intro v i
  rw [encodeCmd, ← upperBits_zero_and_low_iff, ← decodeCommand_eq_ok_iff_encode]
  unfold decode
  split
  case isTrue hupper => simp [hupper]
  case isFalse hupper => simp [hupper]

/-- A value that is no command's word is rejected, for whichever reason. -/
theorem decode_error_of_ne_encodeCmd {v : Word} (h : ∀ i, v ≠ encodeCmd i) : ∃ e, decode v = .error e := by
  cases hv : decode v with
  | ok i => exact absurd ((commandsAreExactlyTheirWords v i).mp hv) (h i)
  | error e => exact ⟨e, rfl⟩

/-- Settles O4: such a value does not decode, and the block only responds. -/
theorem illegalCommandChangesErrOnly : Obligations.IllegalCommandChangesErrOnly := by
  intro s v rest hp hv
  obtain ⟨e, he⟩ := decode_error_of_ne_encodeCmd hv
  rw [step_of_cmdWrite hp, issue_of_error he]
  rfl

end Sys2Proof.Machine
end

section
/-! What a command writes: O7, and the invariant of a step: O39, O40 (spec/10_state.md R21 to R37;
spec/20_memory.md R60 to R64; spec/46_dispatch.md R226). Every command is a run of single writes that its
form allows; frame and invariant are then facts about one such write. -/

namespace Sys2Proof.Machine

/-! What a command writes. -/

/-- One write of a command of form `f` to the block. `RES` is written by the commands that do not store to
memory, `RESX` by the error-free transforms, data memory by the commands that store, inside the address
space; only a command that probes binds (R22, R61, R64, R227). -/
inductive CommandWrite (f : Form) : State → State → Prop where
  | err (c : Response) (s : State) : CommandWrite f s (respond c s)
  | bind (h : probes f = true) (s : State) : CommandWrite f s (probeAndBind s)
  | init (s : State) : CommandWrite f s (lazyInit s)
  | seed (seed : Word) (idx : BitVec 16) (s : State) : CommandWrite f s (seedAll seed idx s)
  | stream (i : Fin 16) (v : Stream) (s : State) : CommandWrite f s (setStream i v s)
  | res (h : usesMemory f = false) (i : Fin 16) (v : Word) (s : State) : CommandWrite f s (setRes i v s)
  | resx (h : writesResx f = true) (i : Fin 16) (v : Word) (s : State) : CommandWrite f s (setResx i v s)
  | store (h : usesMemory f = true) (k : Kind) {a : Nat} (ha : a + k.bytes ≤ 2 ^ 64) (v : Pat k) (s : State) :
      CommandWrite f s (storeElement k a v s)

/-- Any number of such writes. -/
abbrev CommandWrites (f : Form) : State → State → Prop := Relation.ReflTransGen (CommandWrite f)

theorem commandWrites_run (f : Form) {w : Nat} (l : Lane w) (i : Fin 16) (s : State) :
    CommandWrites f s (l.run i s).2 := by
  cases l with
  | plain v => exact .refl
  | draw g =>
    simp only [Lane.run_draw, drawRaw_eq]
    exact .tail (.single (.init s)) (.stream i _ _)

theorem commandWrites_runToRes {f : Form} (h : usesMemory f = false) {w : Nat} (l : Lane w) (i : Fin 16)
    (s : State) : CommandWrites f s (runToRes l i s) :=
  .tail (commandWrites_run f l i s) (.res h i _ _)

theorem commandWrites_runToMem {f : Form} (h : usesMemory f = true) (k : Kind) (l : Lane k.width)
    (i : Fin 16) {a : Nat} (ha : a + k.bytes ≤ 2 ^ 64) (s : State) :
    CommandWrites f s (runToMem k l i a s) :=
  .tail (commandWrites_run f l i s) (.store h k ha _ _)

theorem commandWrites_setPair {f : Form} (h : usesMemory f = false) (hx : writesResx f = true) (k : Kind)
    (i : Nat) (p : ErrorPair k) (s : State) : CommandWrites f s (setPair k i p s) :=
  .tail (.single (.res h _ _ s)) (.resx hx _ _ _)

/-- The common end of a command: a loop of writes, then the response. -/
theorem commandWrites_respond_forLanes {f : Form} {n : Nat} {body : Nat → State → State} {s s' : State}
    (c : Response) (hstart : CommandWrites f s s')
    (hbody : ∀ i t, i < n → CommandWrites f s t → CommandWrites f t (body i t)) :
    CommandWrites f s (respond c (forLanes n body s')) :=
  have hloop : CommandWrites f s (forLanes n body s') :=
    forLanes_induct (fun _ => CommandWrites f s) hstart fun i t hi ht => ht.trans (hbody i t hi ht)
  hloop.tail (.err c _)

/-! The address bound that the range check guarantees (R64). -/

theorem rangeOk_bound {p : Params} {k : Kind} {n : Nat} {b : Word} (h : rangeOk p k n b = true) :
    b.toNat + n * k.bytes ≤ 2 ^ 64 :=
  of_decide_eq_true (Bool.and_eq_true_iff.mp h).1

theorem dynamicCheck_bound {k : Kind} {w : Nat} {s : State} (h : dynamicCheck k w s = .ok) :
    s.dst.toNat + w * k.bytes ≤ 2 ^ 64 := by
  unfold dynamicCheck at h
  split_ifs at h with halign hrange
  exact rangeOk_bound (by simpa using hrange)

/-- With `COUNT = 0` nothing is checked, and nothing need be (R225). -/
theorem arrayCheck_bound {op : Op} {k : Kind} {s : State} (h : arrayCheck op k s = .ok) :
    s.dst.toNat + s.count.toNat * k.bytes ≤ 2 ^ 64 := by
  simp only [arrayCheck] at h
  split_ifs at h with hcount halign hrange hoverlap
  · rw [hcount, Nat.zero_mul]
    exact s.dst.isLt.le
  · have hall : (usedSources op s ++ [s.dst]).all (rangeOk s.params k s.count.toNat) = true := by
      simpa using hrange
    exact rangeOk_bound (List.all_eq_true.mp hall s.dst (by simp))

/-- Element `i` below `n` ends where `n` elements end at the latest. -/
theorem elementAddr_bound {k : Kind} {base : Word} {i n : Nat} (hi : i < n)
    (h : base.toNat + n * k.bytes ≤ 2 ^ 64) : elementAddr k base i + k.bytes ≤ 2 ^ 64 := by
  have hmul : (i + 1) * k.bytes ≤ n * k.bytes := Nat.mul_le_mul_right _ hi
  rw [Nat.succ_mul] at hmul
  unfold elementAddr
  omega

theorem commandWrite_keepsInputs {f : Form} {s t : State} (h : CommandWrite f s t) : KeepsInputs s t := by
  cases h with
  | err c => exact keepsInputs_respond c s
  | bind => exact keepsInputs_probeAndBind s
  | init => exact keepsInputs_lazyInit s
  | seed seed idx => exact keepsInputs_seedAll seed idx s
  | stream i v => exact keepsInputs_setStream i v s
  | res _ i v => exact keepsInputs_setRes i v s
  | resx => exact rfl
  | store _ k _ v => exact keepsInputs_storeElement k _ v s

theorem commandWrites_dst {f : Form} {s t : State} (h : CommandWrites f s t) : t.dst = s.dst := by
  induction h with
  | refl => rfl
  | tail _ hwrite ih =>
    have hkeeps := commandWrite_keepsInputs hwrite
    unfold KeepsInputs at hkeeps
    rw [hkeeps, ← ih]

/-- One element of a storing loop, its address being below the bound the check gave. -/
theorem commandWrites_runToMem_element {f : Form} (h : usesMemory f = true) {k : Kind} {n i : Nat}
    {s t : State} (hi : i < n) (hbound : s.dst.toNat + n * k.bytes ≤ 2 ^ 64) (ht : CommandWrites f s t)
    (l : Lane k.width) : CommandWrites f t (runToMem k l (lane i) (elementAddr k t.dst i) t) := by
  rw [commandWrites_dst ht]
  exact commandWrites_runToMem h k l _ (elementAddr_bound hi hbound) t

theorem commandWrites_dynamicKernel (m : Mode) (op : Op) (k : Kind) (lw : Nat) (s : State) :
    CommandWrites (.arith m .dynamic k lw op) s (dynamicKernel m op k (2 ^ lw) s) := by
  obtain ⟨hcheck, hrun⟩ | ⟨-, hreject⟩ := dynamicKernel_cases m op k (2 ^ lw) s
  · rw [hrun]
    exact commandWrites_respond_forLanes _ (.single (.bind rfl s)) fun i t hi ht =>
      commandWrites_runToMem_element rfl hi (dynamicCheck_bound hcheck) ht _
  · rw [hreject]
    exact .single (.err _ s)

theorem commandWrites_arrayKernel (m : Mode) (op : Op) (k : Kind) (s : State) :
    CommandWrites (.array m k op) s (arrayKernel m op k s) := by
  obtain ⟨hcheck, hrun⟩ | ⟨-, hreject⟩ := arrayKernel_cases m op k s
  · rw [hrun]
    exact commandWrites_respond_forLanes _ (.single (.bind rfl s)) fun i t hi ht =>
      commandWrites_runToMem_element rfl hi (arrayCheck_bound hcheck) ht _
  · rw [hreject]
    exact .single (.err _ s)

/-- Every command does nothing but the writes its form allows. -/
theorem formEffect_commandWrites (f : Form) (s : State) : CommandWrites f s (formEffect f s) := by
  have loop {body : Nat → State → State} (n : Nat) (hbody : ∀ i t, CommandWrites f t (body i t)) :
      CommandWrites f s (respond .ok (forLanes n body s)) :=
    commandWrites_respond_forLanes .ok .refl fun i t _ _ => hbody i t
  cases f with
  | arith m flv k lw op =>
    cases flv with
    | none => exact (commandWrites_runToRes rfl _ _ s).tail (.err .ok _)
    | static =>
      exact commandWrites_respond_forLanes .ok (.single (.bind rfl s)) fun _ t _ _ =>
        commandWrites_runToRes rfl _ _ t
    | dynamic => exact commandWrites_dynamicKernel m op k lw s
  | array m k op => exact commandWrites_arrayKernel m op k s
  | prim k lw op =>
    cases op with
    | twosum => exact loop _ fun i t => commandWrites_setPair rfl rfl k i _ t
    | twoprod => exact loop _ fun i t => commandWrites_setPair rfl rfl k i _ t
    | srround => exact loop _ fun _ t => .single (.res rfl _ _ t)
    | udround => exact loop _ fun _ t => commandWrites_runToRes rfl _ _ t
  | rng op k lw =>
    have jumps {body : Nat → State → State} (hbody : ∀ i t, CommandWrites (.rng op k lw) t (body i t)) :
        CommandWrites (.rng op k lw) s (respond .ok (forLanes (2 ^ lw) body (lazyInit s))) :=
      commandWrites_respond_forLanes .ok (.single (.init s)) fun i t _ _ => hbody i t
    cases op with
    | seed => exact .tail (.single (.seed _ _ s)) (.err .ok _)
    | next => exact loop _ fun _ t => commandWrites_runToRes rfl _ _ t
    | uniform => exact loop _ fun _ t => commandWrites_runToRes rfl _ _ t
    | jump => exact jumps fun _ t => .single (.stream _ _ t)
    | ljump => exact jumps fun _ t => .single (.stream _ _ t)
  | sys op =>
    cases op with
    | nop => exact .single (.err .ok s)
    | probe => exact .tail (.single (.bind rfl s)) (.err .ok _)

theorem exec_commandWrites {i : Instr} {s t : State} (h : exec i s = .next t) : CommandWrites i.form s t := by
  rw [exec_eq_effect] at h
  cases h
  exact formEffect_commandWrites i.form s

/-! What the commands of a form leave alone. -/

@[simp] theorem probeAndBind_mem (s : State) : (probeAndBind s).mem = s.mem := by rw [probeAndBind_frame]
@[simp] theorem probeAndBind_res (s : State) : (probeAndBind s).res = s.res := by rw [probeAndBind_frame]
@[simp] theorem probeAndBind_resx (s : State) : (probeAndBind s).resx = s.resx := by rw [probeAndBind_frame]
@[simp] theorem lazyInit_mem (s : State) : (lazyInit s).mem = s.mem := by rw [lazyInit_frame]
@[simp] theorem lazyInit_res (s : State) : (lazyInit s).res = s.res := by rw [lazyInit_frame]
@[simp] theorem lazyInit_resx (s : State) : (lazyInit s).resx = s.resx := by rw [lazyInit_frame]

/-- What every single write of a form leaves alone, all of them together leave alone. -/
theorem commandWrites_keep {α : Type} {f : Form} (field : State → α)
    (hwrite : ∀ s t, CommandWrite f s t → field t = field s) {s t : State} (h : CommandWrites f s t) :
    field t = field s := by
  induction h with
  | refl => rfl
  | tail _ hlast ih => exact (hwrite _ _ hlast).trans ih

theorem commandWrites_mem {f : Form} (hf : usesMemory f = false) {s t : State} (h : CommandWrites f s t) :
    t.mem = s.mem := by
  refine commandWrites_keep State.mem (fun s t hwrite => ?_) h
  cases hwrite with
  | store huses => rw [hf] at huses; cases huses
  | _ => simp

theorem commandWrites_res {f : Form} (hf : usesMemory f = true) {s t : State} (h : CommandWrites f s t) :
    t.res = s.res := by
  refine commandWrites_keep State.res (fun s t hwrite => ?_) h
  cases hwrite with
  | res huses => rw [hf] at huses; cases huses
  | _ => simp

theorem commandWrites_resx {f : Form} (hf : writesResx f = false) {s t : State}
    (h : CommandWrites f s t) : t.resx = s.resx := by
  refine commandWrites_keep State.resx (fun s t hwrite => ?_) h
  cases hwrite with
  | resx hwrites => rw [hf] at hwrites; cases hwrites
  | _ => simp

/-- Settles O7: the frame all commands share, and what the writes of a form can reach. -/
theorem commandFrame : Obligations.CommandFrame := by
  intro i s t h
  have hwrites := exec_commandWrites h
  have hkeeps := exec_keepsInputs h
  unfold KeepsInputs at hkeeps
  iterate 18 refine ⟨by rw [hkeeps], ?_⟩
  exact ⟨fun hf => commandWrites_mem hf hwrites, fun hf => commandWrites_res hf hwrites,
    fun hf => commandWrites_resx hf hwrites⟩

/-! The invariant. -/

/-- The probe leaves an `UNSELECTED` block `BOUND` with its native lane counts (R226). -/
theorem dispatchOk_probeAndBind {s : State} (h : dispatchOk s = true) : dispatchOk (probeAndBind s) = true := by
  rw [probeAndBind_eq]
  split
  · simp [dispatchOk]
  · exact h

theorem dispatchOk_lazyInit (s : State) : dispatchOk (lazyInit s) = dispatchOk s := by
  rw [lazyInit_frame]
  rfl

theorem commandWrite_inv {f : Form} {s t : State} (h : CommandWrite f s t) (hs : s.Inv) : t.Inv := by
  obtain ⟨hmem, hdispatch⟩ := hs
  cases h with
  | bind => exact ⟨by rwa [probeAndBind_mem], dispatchOk_probeAndBind hdispatch⟩
  | init => exact ⟨by rwa [lazyInit_mem], by rwa [dispatchOk_lazyInit]⟩
  | store _ k ha v => exact ⟨writeElement_wf k v hmem ha, hdispatch⟩
  | _ => exact ⟨hmem, hdispatch⟩

theorem commandWrites_inv {f : Form} {s t : State} (h : CommandWrites f s t) (hs : s.Inv) : t.Inv := by
  induction h with
  | refl => exact hs
  | tail _ hlast ih => exact commandWrite_inv hlast ih

theorem issue_inv {v : Word} {s t : State} (h : issue v s = .next t) (hs : s.Inv) : t.Inv := by
  cases hv : decode v with
  | ok i =>
    rw [issue_of_decode hv] at h
    exact commandWrites_inv (exec_commandWrites h) hs
  | error e =>
    rw [issue_of_error hv] at h
    cases h
    exact hs

theorem writeControl_inv {s : State} (n : Nat) (v : Word) (hs : s.Inv) : (writeControl n v s).Inv := by
  unfold writeControl
  split <;> exact hs

theorem writeRegister_inv {s : State} (n : Nat) (v : Word) (hs : s.Inv) : (writeRegister n v s).Inv := by
  unfold writeRegister
  split_ifs
  · exact writeControl_inv n v hs
  all_goals exact hs

/-- Reset unbinds the block and lists no byte of memory (R40, R271). -/
theorem resetOf_inv (p : Params) (n : Nat) : (State.resetOf p n).Inv := ⟨rfl, rfl⟩

theorem resetAction_inv {s : State} (hs : s.Inv) : (resetAction s).Inv := ⟨hs.1, rfl⟩

theorem perform_inv {a : HostAction} {s t : State} (h : perform a s = .next t) (hs : s.Inv) : t.Inv := by
  cases a with
  | writeReg n v =>
    simp only [perform] at h
    split at h
    · exact issue_inv h hs
    · cases h
      exact writeRegister_inv n v hs
  | readReg n =>
    cases h
    exact hs
  | storeByte a v =>
    rw [hostStore_next h]
    obtain ⟨hmem, hdispatch⟩ := hs
    exact ⟨Memory.write_wf v hmem a.isLt, hdispatch⟩
  | loadByte a =>
    rw [hostLoad_next h]
    exact hs
  | resetBlock =>
    cases h
    exact resetAction_inv hs

/-- Settles O39: the first action is performed, and every kind of action keeps the invariant. -/
theorem stepKeepsInvariant : Obligations.StepKeepsInvariant := by
  intro s t hs h
  cases hp : s.pending with
  | nil =>
    rw [step_idle hp] at h
    cases h
    exact hs
  | cons a rest =>
    rw [step_action hp] at h
    exact perform_inv h hs

/-- Settles O40: memory is empty and nothing is bound. -/
theorem resetHasInvariant : Obligations.ResetHasInvariant :=
  ⟨resetOf_inv Config.params 0, resetOf_inv⟩

end Sys2Proof.Machine
end

section
/-! The trace flag: O8 (spec/10_state.md R33). Every operation of a command commutes with setting it. -/

namespace Sys2Proof.Machine

/-- Setting the trace flag alone (R33). -/
def setTrace (b : Bool) (s : State) : State := { s with trace := b }

/-- A function on states that neither reads nor writes the trace flag. -/
def IgnoresTrace (f : State → State) : Prop := ∀ b s, f (setTrace b s) = setTrace b (f s)

theorem IgnoresTrace.comp {f g : State → State} (hf : IgnoresTrace f) (hg : IgnoresTrace g) :
    IgnoresTrace fun s => f (g s) := by
  intro b s
  dsimp only
  rw [hg, hf]

theorem ignoresTrace_respond (c : Response) : IgnoresTrace (respond c) := fun _ _ => rfl

theorem ignoresTrace_probeAndBind : IgnoresTrace probeAndBind := by
  intro b s
  rw [probeAndBind_eq, probeAndBind_eq]
  by_cases hunselected : s.dstate = .unselected <;> simp [setTrace, hunselected]

theorem ignoresTrace_lazyInit : IgnoresTrace lazyInit := by
  intro b s
  unfold lazyInit
  cases hinit : s.rngInit <;> cases hovr : s.seedOvrEn <;> simp [setTrace, hinit, hovr, seedAll]

/-- The common end of a command: a loop, then the response. -/
theorem ignoresTrace_respond_forLanes {body : Nat → State → State} {start : State → State} (c : Response)
    (n : Nat) (hstart : IgnoresTrace start) (hbody : ∀ i, IgnoresTrace (body i)) :
    IgnoresTrace fun s => respond c (forLanes n body (start s)) := by
  have hloop : IgnoresTrace fun s => forLanes n body (start s) := by
    induction n with
    | zero => exact hstart
    | succ n ih => exact (hbody n).comp ih
  exact (ignoresTrace_respond c).comp hloop

theorem drawRaw_setTrace (b : Bool) (i : Fin 16) (s : State) :
    drawRaw i (setTrace b s) = ((drawRaw i s).1, setTrace b (drawRaw i s).2) := by
  rw [drawRaw_eq, drawRaw_eq, ignoresTrace_lazyInit]
  rfl

/-- A lane function run with the flag set otherwise gives the same result, and the same state but for the
flag. -/
theorem run_setTrace {w : Nat} (l : Lane w) (b : Bool) (i : Fin 16) (s : State) :
    l.run i (setTrace b s) = ((l.run i s).1, setTrace b (l.run i s).2) := by
  cases l with
  | plain v => rfl
  | draw f => simp only [Lane.run_draw, drawRaw_setTrace]

/-- A lane whose lane function does not depend on the flag, its result going to `RES`. -/
theorem ignoresTrace_runToRes {w : Nat} {l : State → Lane w} (i : Fin 16)
    (hl : ∀ b s, l (setTrace b s) = l s) : IgnoresTrace fun s => runToRes (l s) i s := by
  intro b s
  simp only [runToRes, hl, run_setTrace]
  rfl

/-- The same, the result going to memory at an address that does not depend on the flag either. -/
theorem ignoresTrace_runToMem (k : Kind) {l : State → Lane k.width} {a : State → Nat} (i : Fin 16)
    (hl : ∀ b s, l (setTrace b s) = l s) (ha : ∀ b s, a (setTrace b s) = a s) :
    IgnoresTrace fun s => runToMem k (l s) i (a s) s := by
  intro b s
  simp only [runToMem, hl, ha, run_setTrace]
  rfl

theorem ignoresTrace_dynamicKernel (m : Mode) (op : Op) (k : Kind) (w : Nat) :
    IgnoresTrace (dynamicKernel m op k w) := by
  intro b s
  have hrun := ignoresTrace_respond_forLanes (body := dynamicLane m op k) .ok w ignoresTrace_probeAndBind
    fun i => ignoresTrace_runToMem k (lane i) (fun _ _ => rfl) fun _ _ => rfl
  have hcheck : dynamicCheck k w (setTrace b s) = dynamicCheck k w s := rfl
  unfold dynamicKernel
  rw [hcheck]
  cases dynamicCheck k w s with
  | ok => exact hrun b s
  | _ => rfl

theorem ignoresTrace_arrayKernel (m : Mode) (op : Op) (k : Kind) : IgnoresTrace (arrayKernel m op k) := by
  intro b s
  have hrun := ignoresTrace_respond_forLanes (body := arrayElement m op k) .ok s.count.toNat
    ignoresTrace_probeAndBind
    fun i => ignoresTrace_runToMem k (lane i) (fun _ _ => rfl) fun _ _ => rfl
  have hcheck : arrayCheck op k (setTrace b s) = arrayCheck op k s := rfl
  unfold arrayKernel
  rw [hcheck]
  cases arrayCheck op k s with
  | ok => exact hrun b s
  | _ => rfl

/-- No form of command reads or writes the trace flag. -/
theorem ignoresTrace_formEffect (f : Form) : IgnoresTrace (formEffect f) := by
  have loop {body : Nat → State → State} (n : Nat) (hbody : ∀ i, IgnoresTrace (body i)) :
      IgnoresTrace fun s => respond .ok (forLanes n body s) :=
    ignoresTrace_respond_forLanes .ok n (fun _ _ => rfl) hbody
  cases f with
  | arith m flv k lw op =>
    cases flv with
    | none => exact (ignoresTrace_respond .ok).comp (ignoresTrace_runToRes _ fun _ _ => rfl)
    | static =>
      exact ignoresTrace_respond_forLanes .ok _ ignoresTrace_probeAndBind fun i =>
        ignoresTrace_runToRes (lane i) fun _ _ => rfl
    | dynamic => exact ignoresTrace_dynamicKernel m op k _
  | array m k op => exact ignoresTrace_arrayKernel m op k
  | prim k lw op =>
    cases op with
    | twosum => exact loop _ fun _ _ _ => rfl
    | twoprod => exact loop _ fun _ _ _ => rfl
    | srround => exact loop _ fun _ _ _ => rfl
    | udround => exact loop _ fun i => ignoresTrace_runToRes (lane i) fun _ _ => rfl
  | rng op k lw =>
    cases op with
    | seed => exact fun _ _ => rfl
    | next => exact loop _ fun i => ignoresTrace_runToRes (lane i) fun _ _ => rfl
    | uniform => exact loop _ fun i => ignoresTrace_runToRes (lane i) fun _ _ => rfl
    | jump => exact ignoresTrace_respond_forLanes .ok _ ignoresTrace_lazyInit fun _ _ _ => rfl
    | ljump => exact ignoresTrace_respond_forLanes .ok _ ignoresTrace_lazyInit fun _ _ _ => rfl
  | sys op =>
    cases op with
    | nop => exact ignoresTrace_respond .ok
    | probe => exact (ignoresTrace_respond .ok).comp ignoresTrace_probeAndBind

/-- Settles O8: every command commutes with setting the flag. -/
theorem traceHasNoEffect : Obligations.TraceHasNoEffect := by
  intro i s t b h
  rw [exec_eq_effect] at h ⊢
  cases h
  exact congrArg Host.Outcome.next (ignoresTrace_formEffect i.form b s)

end Sys2Proof.Machine
end

section
/-! The register interface: O44, O45 (spec/10_state.md R22, R27, R30, R34 to R36, R39). What a host write to
each region of register numbers does, and what every number reads after it. -/

namespace Sys2Proof.Machine

/-! Lanes and stream words. -/

theorem getElem_set_fin {α : Type} (r : Vector α 16) (i j : Fin 16) (v : α) :
    (r.set i v)[j] = if j = i then v else r[j] := by
  simp only [Fin.getElem_fin, Vector.getElem_set, Fin.ext_iff, eq_comm]

/-- Different numbers below 16 name different lanes (R221). -/
theorem lane_ne_of_lt {a b : Nat} (ha : a < 16) (hb : b < 16) (h : a ≠ b) : lane a ≠ lane b := by
  rw [Ne, Fin.ext_iff, lane_val, lane_val]
  omega

theorem streamWord_setStreamWord_self (v : Stream) (w : Nat) (x : Word) :
    streamWord (setStreamWord v w x) w = x := by
  unfold setStreamWord
  split
  case h_4 => simp [streamWord]
  all_goals rfl

/-- The four words of a stream state are independent. -/
theorem streamWord_setStreamWord_ne {w w' : Nat} (v : Stream) (x : Word) (hw : w < 4) (hw' : w' < 4)
    (h : w' ≠ w) : streamWord (setStreamWord v w x) w' = streamWord v w' := by
  interval_cases w <;> interval_cases w' <;> first | rfl | exact absurd rfl h

/-! What each register number reads after one field of the block has been set (R27). -/

theorem readRegister_set_opa (n : Nat) (r : LaneReg) (s : State) :
    readRegister n { s with opa := r } =
      if 16 ≤ n ∧ n < 32 then r[lane (n - 16)] else readRegister n s := by
  split_ifs with h
  · unfold readRegister
    rw [if_neg (by omega), if_pos h.2]
  · exact ite_congr rfl (fun _ => rfl) fun hlow =>
      ite_congr rfl (fun hhigh => absurd ⟨by omega, hhigh⟩ h) fun _ => rfl

theorem readRegister_set_opb (n : Nat) (r : LaneReg) (s : State) :
    readRegister n { s with opb := r } =
      if 32 ≤ n ∧ n < 48 then r[lane (n - 32)] else readRegister n s := by
  split_ifs with h
  · unfold readRegister
    rw [if_neg (by omega), if_neg (by omega), if_pos h.2]
  · exact ite_congr rfl (fun _ => rfl) fun _ => ite_congr rfl (fun _ => rfl) fun hlow =>
      ite_congr rfl (fun hhigh => absurd ⟨by omega, hhigh⟩ h) fun _ => rfl

theorem readRegister_set_opc (n : Nat) (r : LaneReg) (s : State) :
    readRegister n { s with opc := r } =
      if 48 ≤ n ∧ n < 64 then r[lane (n - 48)] else readRegister n s := by
  split_ifs with h
  · unfold readRegister
    rw [if_neg (by omega), if_neg (by omega), if_neg (by omega), if_pos h.2]
  · exact ite_congr rfl (fun _ => rfl) fun _ =>
      ite_congr rfl (fun _ => rfl) fun _ => ite_congr rfl (fun _ => rfl) fun hlow =>
      ite_congr rfl (fun hhigh => absurd ⟨by omega, hhigh⟩ h) fun _ => rfl

theorem readRegister_set_streams (n : Nat) (r : Vector Stream 16) (s : State) :
    readRegister n { s with streams := r } =
      if 128 ≤ n ∧ n < 192 then streamWord r[lane ((n - 128) / 4)] ((n - 128) % 4)
      else readRegister n s := by
  split_ifs with h
  · unfold readRegister
    iterate 6 rw [if_neg (by omega)]
    rw [if_pos h]
  · unfold readRegister
    rw [if_neg h, if_neg h]
    rfl

/-! What a host write to each region of register numbers does (R27, R39). -/

/-- The regions of the register map (R27): the control registers, the operand registers with the
lane streams, and the numbers that ignore a write. -/
theorem registerNumber_cases (n : Nat) :
    n < 16 ∨ ((16 ≤ n ∧ n < 64) ∨ (128 ≤ n ∧ n < 192)) ∨ (64 ≤ n ∧ ¬(128 ≤ n ∧ n < 192)) := by
  omega

section
variable {n : Nat} (v : Word) (s : State)

theorem writeRegister_control (h : n < 16) : writeRegister n v s = writeControl n v s := if_pos h

theorem writeRegister_opa (h : 16 ≤ n ∧ n < 32) :
    writeRegister n v s = { s with opa := s.opa.set (lane (n - 16)) v } := by
  unfold writeRegister
  rw [if_neg (by omega), if_pos h.2]

theorem writeRegister_opb (h : 32 ≤ n ∧ n < 48) :
    writeRegister n v s = { s with opb := s.opb.set (lane (n - 32)) v } := by
  unfold writeRegister
  rw [if_neg (by omega), if_neg (by omega), if_pos h.2]

theorem writeRegister_opc (h : 48 ≤ n ∧ n < 64) :
    writeRegister n v s = { s with opc := s.opc.set (lane (n - 48)) v } := by
  unfold writeRegister
  rw [if_neg (by omega), if_neg (by omega), if_neg (by omega), if_pos h.2]

theorem writeRegister_stream (h : 128 ≤ n ∧ n < 192) :
    writeRegister n v s =
      { s with
        streams := s.streams.set (lane ((n - 128) / 4))
          (setStreamWord s.streams[lane ((n - 128) / 4)] ((n - 128) % 4) v) } := by
  unfold writeRegister
  rw [if_neg (by omega), if_neg (by omega), if_neg (by omega), if_neg (by omega), if_pos h]
  rfl

theorem writeRegister_ignored (h : 64 ≤ n ∧ ¬(128 ≤ n ∧ n < 192)) : writeRegister n v s = s := by
  unfold writeRegister
  rw [if_neg (by omega), if_neg (by omega), if_neg (by omega), if_neg (by omega), if_neg h.2]

end

/-! The control registers. -/

/-- Masking with `2^k - 1` keeps the low `k` bits. -/
theorem and_mask_eq_setWidth (v : Word) {k : Nat} (hk : k ≤ 64) :
    v &&& BitVec.ofNat 64 (2 ^ k - 1) = (v.setWidth k).setWidth 64 := by
  have hpow : 2 ^ k ≤ 2 ^ 64 := Nat.pow_le_pow_right (by decide) hk
  have hmod : v.toNat % 2 ^ k < 2 ^ k := Nat.mod_lt _ (Nat.two_pow_pos k)
  apply BitVec.eq_of_toNat_eq
  rw [BitVec.toNat_and, BitVec.toNat_ofNat, BitVec.toNat_setWidth, BitVec.toNat_setWidth,
    Nat.mod_eq_of_lt (by omega : 2 ^ k - 1 < 2 ^ 64), Nat.and_two_pow_sub_one_eq_mod,
    Nat.mod_eq_of_lt (by omega : v.toNat % 2 ^ k < 2 ^ 64)]

/-- A register of 16 bits reads back the low half-word of what was written (R34, R35). -/
theorem setWidth_setWidth_16 (v : Word) : (v.setWidth 16).setWidth 64 = v &&& 0xFFFF#64 :=
  (and_mask_eq_setWidth v (k := 16) (by decide)).symm

/-- `CTRL` after a write depends on the low three bits of the value (R30). -/
theorem ctrlWord_setCtrl_eq_setWidth (v : Word) (s : State) :
    ctrlWord (setCtrl v s) = (v.setWidth 3).setWidth 64 := by
  have hbits (w : BitVec 3) : (BitVec.ofBool (w.getLsbD 0)).setWidth 64 |||
      ((BitVec.ofBool (w.getLsbD 1)).setWidth 64 <<< 1) |||
      ((BitVec.ofBool (w.getLsbD 2)).setWidth 64 <<< 2) = w.setWidth 64 := by
    revert w; decide
  rw [← hbits]
  simp [ctrlWord, setCtrl]

/-- The three bits of `CTRL` read back as they were written (R30). -/
theorem ctrlWord_setCtrl (v : Word) (s : State) : ctrlWord (setCtrl v s) = v &&& 7#64 := by
  rw [ctrlWord_setCtrl_eq_setWidth]
  exact (and_mask_eq_setWidth v (k := 3) (by decide)).symm

/-- A control write reaches the host-writable control fields only (R27). -/
theorem writeControl_frame (n : Nat) (v : Word) (s : State) :
    writeControl n v s =
      { s with
        trace := (writeControl n v s).trace, seedOvrEn := (writeControl n v s).seedOvrEn
        rngInit := (writeControl n v s).rngInit, seedOvr := (writeControl n v s).seedOvr
        tid := (writeControl n v s).tid, seedArg := (writeControl n v s).seedArg
        streamArg := (writeControl n v s).streamArg, count := (writeControl n v s).count
        srca := (writeControl n v s).srca, srcb := (writeControl n v s).srcb
        srcc := (writeControl n v s).srcc, dst := (writeControl n v s).dst } := by
  unfold writeControl
  split <;> rfl

/-- Above the control registers a control write is not seen. -/
theorem readRegister_writeControl_of_ge {n' : Nat} (h : ¬n' < 16) (n : Nat) (v : Word) (s : State) :
    readRegister n' (writeControl n v s) = readRegister n' s := by
  rw [writeControl_frame]
  simp only [readRegister, if_neg h]

/-- What each of the 16 control registers reads after a write to it (R27). -/
theorem readControl_writeControl_self {n : Nat} (h : n < 16) (v : Word) (s : State) :
    readControl n (writeControl n v s) =
      if n = 2 then v &&& 7#64
      else if n = 4 ∨ n = 6 then v &&& 0xFFFF#64
      else if n = 3 ∨ n = 5 ∨ (7 ≤ n ∧ n ≤ 11) then v
      else readControl n s := by
  match n, h with
  | 2, _ => exact ctrlWord_setCtrl v s
  | 4, _ | 6, _ => exact setWidth_setWidth_16 v
  | 0, _ | 1, _ | 3, _ | 5, _ | 7, _ | 8, _ | 9, _ | 10, _ | 11, _ | 12, _ | 13, _ | 14, _ | 15, _ => rfl
  | n + 16, hlarge => omega

/-- No two control registers share a field. -/
theorem readControl_writeControl_ne {n n' : Nat} (h : n' ≠ n) (v : Word) (s : State) :
    readControl n' (writeControl n v s) = readControl n' s := by
  unfold writeControl
  split
  all_goals
    unfold readControl
    split
  all_goals first | rfl | exact absurd rfl h

theorem readRegister_control {n : Nat} (h : n < 16) (s : State) : readRegister n s = readControl n s := if_pos h

/-! The numbered registers. -/

/-- A view `x` of lane register `r`, which stands at the numbers from `base` on, after a write to lane
number `n` of it: the lane written shows the value, everything else what it showed. -/
theorem laneView_set {base n n' : Nat} (hn : base ≤ n ∧ n < base + 16) (r : LaneReg) (v x : Word)
    (hx : base ≤ n' ∧ n' < base + 16 → x = r[lane (n' - base)]) :
    (if base ≤ n' ∧ n' < base + 16 then (r.set (lane (n - base)) v)[lane (n' - base)] else x) =
      if n' = n then v else x := by
  rw [getElem_set_fin]
  by_cases heq : n' = n
  · subst heq
    rw [if_pos hn, if_pos rfl, if_pos rfl]
  · rw [if_neg heq]
    split_ifs with hn' hlane
    · exact absurd hlane (lane_ne_of_lt (by omega) (by omega) (by omega))
    · exact (hx hn').symm
    · rfl

theorem readRegister_writeRegister_opa {n : Nat} (h : 16 ≤ n ∧ n < 32) (n' : Nat) (v : Word) (s : State) :
    readRegister n' (writeRegister n v s) = if n' = n then v else readRegister n' s := by
  rw [writeRegister_opa v s h, readRegister_set_opa]
  exact laneView_set h s.opa v _ fun h' => (readRegister_set_opa n' s.opa s).trans (if_pos h')

theorem readRegister_writeRegister_opb {n : Nat} (h : 32 ≤ n ∧ n < 48) (n' : Nat) (v : Word) (s : State) :
    readRegister n' (writeRegister n v s) = if n' = n then v else readRegister n' s := by
  rw [writeRegister_opb v s h, readRegister_set_opb]
  exact laneView_set h s.opb v _ fun h' => (readRegister_set_opb n' s.opb s).trans (if_pos h')

theorem readRegister_writeRegister_opc {n : Nat} (h : 48 ≤ n ∧ n < 64) (n' : Nat) (v : Word) (s : State) :
    readRegister n' (writeRegister n v s) = if n' = n then v else readRegister n' s := by
  rw [writeRegister_opc v s h, readRegister_set_opc]
  exact laneView_set h s.opc v _ fun h' => (readRegister_set_opc n' s.opc s).trans (if_pos h')

/-- A stream register number names a lane and a word of its state (R27). -/
theorem readRegister_writeRegister_stream {n : Nat} (h : 128 ≤ n ∧ n < 192) (n' : Nat) (v : Word)
    (s : State) : readRegister n' (writeRegister n v s) = if n' = n then v else readRegister n' s := by
  rw [writeRegister_stream v s h, readRegister_set_streams, getElem_set_fin]
  by_cases heq : n' = n
  · subst heq
    rw [if_pos h, if_pos rfl, if_pos rfl, streamWord_setStreamWord_self]
  · rw [if_neg heq]
    split_ifs with hn' hlane
    · have hword : (n' - 128) % 4 ≠ (n - 128) % 4 := by
        rw [Fin.ext_iff, lane_val, lane_val] at hlane
        omega
      have hlt (m : Nat) : m % 4 < 4 := Nat.mod_lt m (by decide)
      rw [streamWord_setStreamWord_ne _ _ (hlt _) (hlt _) hword]
      have hsame := congrArg (fun i => streamWord s.streams[i] ((n' - 128) % 4)) hlane
      exact hsame.symm.trans ((readRegister_set_streams n' s.streams s).trans (if_pos hn')).symm
    · exact ((readRegister_set_streams n' s.streams s).trans (if_pos hn')).symm
    · rfl

/-- The numbered registers a host may write hold 64 bits each, all independent. -/
theorem readRegister_writeRegister_numbered {n : Nat} (h : (16 ≤ n ∧ n < 64) ∨ (128 ≤ n ∧ n < 192))
    (n' : Nat) (v : Word) (s : State) :
    readRegister n' (writeRegister n v s) = if n' = n then v else readRegister n' s := by
  obtain hopa | hopb | hopc | hstream :
      (16 ≤ n ∧ n < 32) ∨ (32 ≤ n ∧ n < 48) ∨ (48 ≤ n ∧ n < 64) ∨ (128 ≤ n ∧ n < 192) := by omega
  · exact readRegister_writeRegister_opa hopa n' v s
  · exact readRegister_writeRegister_opb hopb n' v s
  · exact readRegister_writeRegister_opc hopc n' v s
  · exact readRegister_writeRegister_stream hstream n' v s

/-- Settles O44: the control registers one by one, the numbered registers, and the numbers that ignore a
write. -/
theorem hostWriteThenRead : Obligations.HostWriteThenRead := by
  intro n v s _
  obtain hcontrol | hnumbered | hignored := registerNumber_cases n
  · rw [writeRegister_control v s hcontrol, readRegister_control hcontrol, readRegister_control hcontrol,
      readControl_writeControl_self hcontrol]
    congr 3
    simp only [eq_iff_iff]
    omega
  · rw [readRegister_writeRegister_numbered hnumbered, if_pos rfl, if_neg (by omega), if_neg (by omega),
      if_pos (by omega)]
  · rw [writeRegister_ignored v s hignored, if_neg (by omega), if_neg (by omega), if_neg (by omega)]

theorem writeRegister_mem (n : Nat) (v : Word) (s : State) : (writeRegister n v s).mem = s.mem := by
  unfold writeRegister
  split_ifs
  · rw [writeControl_frame]
  all_goals rfl

/-- Settles O45, by the same cases. -/
theorem hostWriteLeavesOtherRegisters : Obligations.HostWriteLeavesOtherRegisters := by
  intro n n' v s _ hne
  refine ⟨?_, writeRegister_mem n v s, writeRegister_params n v s⟩
  obtain hcontrol | hnumbered | hignored := registerNumber_cases n
  · rw [writeRegister_control v s hcontrol]
    by_cases hn' : n' < 16
    · rw [readRegister_control hn', readRegister_control hn', readControl_writeControl_ne hne]
    · exact readRegister_writeControl_of_ge hn' n v s
  · rw [readRegister_writeRegister_numbered hnumbered, if_neg hne]
  · rw [writeRegister_ignored v s hignored]

end Sys2Proof.Machine
end

section
/-! `STATUS`, a host read and a reset: O42, O43, O46 (spec/10_state.md R29, R39, R40;
spec/70_reset_and_hazards.md R270, R271). -/

namespace Sys2Proof.Machine

/-! `STATUS`. -/

/-- A field put in place reads back. -/
theorem extractLsb'_field_self {w k : Nat} (x : BitVec w) (h : k + w ≤ 64) :
    (x.setWidth 64 <<< k).extractLsb' k w = x := by
  ext i hi
  simp [show k + i < 64 by omega, hi]

/-- A field shows no bit outside its place. -/
theorem extractLsb'_field_outside {w k start len : Nat} (x : BitVec w)
    (h : start + len ≤ k ∨ k + w ≤ start) : (x.setWidth 64 <<< k).extractLsb' start len = 0#len := by
  ext i hi
  rw [BitVec.getElem_extractLsb', BitVec.getLsbD_shiftLeft, BitVec.getLsbD_setWidth, BitVec.getElem_zero]
  rcases h with hlow | hhigh
  · simp [show start + i < k by omega]
  · simp [BitVec.getLsbD_of_ge x (start + i - k) (by omega)]

/-- `STATUS` is four fields put in place (R29). -/
theorem statusWord_extractLsb' (s : State) (start len : Nat) :
    (statusWord s).extractLsb' start len =
      (s.dstate.code.setWidth 64 <<< 0).extractLsb' start len |||
      (s.err.code.setWidth 64 <<< 4).extractLsb' start len |||
      (s.bound32.setWidth 64 <<< 8).extractLsb' start len |||
      (s.bound64.setWidth 64 <<< 12).extractLsb' start len := by
  simp only [statusWord, BitVec.extractLsb'_or, BitVec.shiftLeft_zero]

/-- Settles O46: each place holds its own field, and no field reaches another's place. -/
theorem statusBits : Obligations.StatusBits := by
  intro s w
  have hslice (start len : Nat) : w.extractLsb' start len = _ := statusWord_extractLsb' s start len
  refine ⟨?_, ?_, ?_, ?_, ?_, ?_, ?_⟩
  all_goals
    simp (disch := omega) only [hslice, extractLsb'_field_self, extractLsb'_field_outside,
      BitVec.or_zero, BitVec.zero_or]

/-! A host read and a reset. -/

/-- Settles O43: the read hands the value to the host, and nothing else happens. -/
theorem hostReadChangesNothing : Obligations.HostReadChangesNothing := by
  intro s n rest hp
  rw [step_action hp]
  rfl

theorem readRegister_status (s : State) : readRegister 1 s = statusWord s := rfl

theorem readRegister_ctrl (s : State) : readRegister 2 s = ctrlWord s := rfl

/-- `STATUS` reads 0 when nothing is bound and no error is shown (R29). -/
theorem statusWord_eq_zero {s : State} (hdstate : s.dstate = .unselected) (herr : s.err = .ok)
    (hbound32 : s.bound32 = 0#3) (hbound64 : s.bound64 = 0#3) : statusWord s = 0#64 := by
  rw [statusWord, hdstate, herr, hbound32, hbound64]
  rfl

/-- `CTRL` reads 0 when its three flags are clear (R30). -/
theorem ctrlWord_eq_zero {s : State} (htrace : s.trace = false) (hovr : s.seedOvrEn = false)
    (hinit : s.rngInit = false) : ctrlWord s = 0#64 := by
  rw [ctrlWord, htrace, hovr, hinit]
  decide

theorem resetOf_tid (p : Params) (n : Nat) : (State.resetOf p n).tid = p.tidReset := by
  simp only [State.resetOf]

theorem resetAction_tid (s : State) : (resetAction s).tid = s.params.tidReset := by
  simp only [resetAction, State.resetOf]

theorem step_of_reset {s : State} {rest : List HostAction} (h : s.pending = .resetBlock :: rest) :
    step s = .next (resetAction { s with pending := rest }) := by
  rw [step_action h]
  rfl

/-- Settles O42: the reset action gives the registers of a fresh block with the same parameters, and takes
memory and the program over. -/
theorem resetValues : Obligations.ResetValues := by
  unfold Obligations.ResetValues
  simp only [readRegister_status, readRegister_ctrl]
  refine ⟨fun p n => ⟨statusWord_eq_zero rfl rfl rfl rfl, ctrlWord_eq_zero rfl rfl rfl, resetOf_tid p n,
    rfl, rfl⟩, ?_⟩
  intro s rest hp
  exact ⟨_, step_of_reset hp, rfl, resetAction_params _, rfl, statusWord_eq_zero rfl rfl rfl rfl,
    ctrlWord_eq_zero rfl rfl rfl, resetAction_tid _⟩

end Sys2Proof.Machine
end

section
/-! Elements in memory and the host's stores: O59, O60 (spec/20_memory.md R60, R62, R66; log 3). -/

namespace Sys2Proof.Machine

/-- Bytes that are the base-256 digits of a number, least significant first, read as that number (R62). -/
theorem readNat_of_digits {m : Memory} {a n v : Nat}
    (h : ∀ i < n, Memory.read m (a + i) = BitVec.ofNat 8 (v / 256 ^ i)) :
    readNat m a n = v % 256 ^ n := by
  induction n generalizing a v with
  | zero => rw [readNat, Nat.pow_zero, Nat.mod_one]
  | succ n ih =>
    have hlow : Memory.read m a = BitVec.ofNat 8 v := by simpa using h 0 n.succ_pos
    have hhigh : readNat m (a + 1) n = v / 256 % 256 ^ n := by
      refine ih fun i hi => ?_
      rw [Nat.add_assoc, Nat.add_comm 1 i, h (i + 1) (by omega), Nat.div_div_eq_div_mul, ← Nat.pow_succ']
    rw [Nat.pow_succ', Nat.mod_mul, readNat, hlow, hhigh, BitVec.toNat_ofNat]

/-- A kind's patterns are the numbers its bytes can hold (R62). -/
theorem pow_bytes (k : Kind) : 256 ^ k.bytes = 2 ^ k.width := by
  rw [← bytes_mul_eight, Nat.pow_mul]

/-- Byte `i` of a written element is bits `8i+7..8i` of it (R62). -/
theorem read_writeElement_inside (k : Kind) {m : Memory} {a i : Nat} (v : Pat k) (hm : Memory.wf m = true)
    (ha : a + k.bytes ≤ 2 ^ 64) (hi : i < k.bytes) :
    Memory.read (writeElement k m a v) (a + i) = v.extractLsb' (8 * i) 8 := by
  rw [writeElement, read_writeNat_inside _ hm ha hi]
  apply BitVec.eq_of_toNat_eq
  rw [BitVec.toNat_ofNat, BitVec.extractLsb'_toNat, Nat.shiftRight_eq_div_pow, Nat.pow_mul]

/-- An element reads back (R62, R66). -/
theorem readElement_writeElement_self (k : Kind) {m : Memory} {a : Nat} (v : Pat k)
    (hm : Memory.wf m = true) (ha : a + k.bytes ≤ 2 ^ 64) : readElement k (writeElement k m a v) a = v := by
  have hdigits : readNat (writeElement k m a v) a k.bytes = v.toNat % 256 ^ k.bytes :=
    readNat_of_digits fun i hi => read_writeNat_inside _ hm ha hi
  rw [readElement, hdigits, pow_bytes, Nat.mod_eq_of_lt v.isLt, BitVec.ofNat_toNat, BitVec.setWidth_eq]

/-- An element is its bytes: memories that agree on them hold the same element (R62). -/
theorem readElement_congr (k : Kind) {m m' : Memory} {a : Nat}
    (h : ∀ i < k.bytes, Memory.read m (a + i) = Memory.read m' (a + i)) :
    readElement k m a = readElement k m' a := by
  rw [readElement, readElement, readNat_congr h]

/-- Storing an element leaves every element beside it alone (R62). -/
theorem readElement_writeElement_disjoint (k : Kind) {a b : Nat} (m : Memory) (v : Pat k)
    (h : b + k.bytes ≤ a ∨ a + k.bytes ≤ b) :
    readElement k (writeElement k m a v) b = readElement k m b :=
  readElement_congr k fun _ _ => read_writeElement_outside k m v (by omega)

/-- Settles O59: the round trip, the bytes of the element, and the bytes outside it. -/
theorem elementRoundTrip : Obligations.ElementRoundTrip := by
  intro k m a v hm ha
  exact ⟨readElement_writeElement_self k v hm ha, fun _ hi => read_writeElement_inside k v hm ha hi,
    fun _ hb => read_writeElement_outside k m v hb⟩

/-- A host store to ordinary memory (R60). -/
theorem hostStore_of_valid {a : Word} {s : State} (v : Byte) (h : memValid s.params a.toNat 1 = true) :
    hostStore a v s = .next { s with mem := Memory.write s.mem a.toNat v } := by
  rw [hostStore, if_pos h]

/-- A host store anywhere else (log 3). -/
theorem hostStore_of_invalid {a : Word} {s : State} (v : Byte)
    (h : memValid s.params a.toNat 1 = false) : hostStore a v s = .refused .hostAccessOutsideMemory := by
  rw [hostStore, if_neg (ne_true_of_eq_false h)]

/-- The host's next action stores a byte: the step performs the store. -/
theorem step_of_storeByte {s : State} {a : Word} {v : Byte} {rest : List HostAction}
    (h : s.pending = .storeByte a v :: rest) : step s = hostStore a v { s with pending := rest } :=
  step_action h

/-- Settles O60: the address is ordinary memory, or the step is refused. -/
theorem hostStoreToMemory : Obligations.HostStoreToMemory := by
  intro s a v rest hp hm
  rw [step_of_storeByte hp]
  constructor
  · intro hvalid
    exact ⟨_, hostStore_of_valid v hvalid, rfl, Memory.read_write_self _ v hm,
      fun _ hb => Memory.read_write_ne _ v hb⟩
  · exact fun hinvalid => hostStore_of_invalid v hinvalid

end Sys2Proof.Machine
end

section
/-! The checks of the commands that store: O14, O16 (spec/20_memory.md R63 to R65; spec/46_dispatch.md R224,
R225; spec/60_exceptions.md R252). Each check as a statement about numbers, then the order of the checks. -/

namespace Sys2Proof.Machine

/-! The checks one by one. -/

theorem aligned_iff (k : Kind) (b : Word) : aligned k b = true ↔ b.toNat % k.bytes = 0 := beq_iff_eq

theorem aligned_eq_false_iff (k : Kind) (b : Word) : aligned k b = false ↔ b.toNat % k.bytes ≠ 0 :=
  beq_eq_false_iff_ne

theorem rangeOk_eq_false_iff (p : Params) (k : Kind) (n : Nat) (b : Word) :
    rangeOk p k n b = false ↔ 2 ^ 64 < b.toNat + n * k.bytes ∨ memValid p b.toNat (n * k.bytes) = false := by
  rw [rangeOk, Bool.and_eq_false_iff, decide_eq_false_iff_not, Nat.not_le]

theorem rangeOk_of_bound {p : Params} {k : Kind} {n : Nat} {b : Word}
    (hbound : b.toNat + n * k.bytes ≤ 2 ^ 64) (hvalid : memValid p b.toNat (n * k.bytes) = true) :
    rangeOk p k n b = true := by
  rw [rangeOk, decide_eq_true hbound, hvalid, Bool.true_and]

theorem overlaps_iff (k : Kind) (n : Nat) (dst src : Word) :
    overlaps k n dst src = true ↔
      src ≠ dst ∧ src.toNat < dst.toNat + n * k.bytes ∧ dst.toNat < src.toNat + n * k.bytes := by
  simp only [overlaps, Bool.and_eq_true, decide_eq_true_eq, and_assoc]

theorem two_le_arity_iff (op : Op) : 2 ≤ arity op ↔ op ≠ .sqrt := by cases op <;> decide

theorem three_le_arity_iff (op : Op) : 3 ≤ arity op ↔ op = .fma := by cases op <;> decide

/-- `SRCA` always, `SRCB` unless the operation is `sqrt`, `SRCC` for `fma` (R92, R225). -/
theorem mem_usedSources_iff (op : Op) (s : State) (b : Word) :
    b ∈ usedSources op s ↔ b = s.srca ∨ (op ≠ .sqrt ∧ b = s.srcb) ∨ (op = .fma ∧ b = s.srcc) := by
  simp only [usedSources, List.mem_cons, List.mem_append, List.mem_ite_nil_right,
    List.not_mem_nil, or_false, two_le_arity_iff, three_le_arity_iff]

/-! A rejected command. -/

/-- A dynamic vector command whose check fails records the code and changes nothing else (R253). -/
theorem exec_dynamic_of_reject {i : Instr} {m : Mode} {k : Kind} {lw : Nat} {op : Op} {s : State}
    {c : Response} (hform : i.form = .arith m .dynamic k lw op) (hcheck : dynamicCheck k (2 ^ lw) s = c)
    (hc : c ≠ .ok) : exec i s = .next { s with err := c } := by
  subst hcheck
  rw [exec_eq_effect, hform]
  obtain ⟨hok, -⟩ | ⟨-, hreject⟩ := dynamicKernel_cases m op k (2 ^ lw) s
  · exact absurd hok hc
  · exact congrArg Host.Outcome.next hreject

/-- The same for an array command. -/
theorem exec_array_of_reject {i : Instr} {m : Mode} {k : Kind} {op : Op} {s : State} {c : Response}
    (hform : i.form = .array m k op) (hcheck : arrayCheck op k s = c) (hc : c ≠ .ok) :
    exec i s = .next { s with err := c } := by
  subst hcheck
  rw [exec_eq_effect, hform]
  obtain ⟨hok, -⟩ | ⟨-, hreject⟩ := arrayKernel_cases m op k s
  · exact absurd hok hc
  · exact congrArg Host.Outcome.next hreject

/-! A command that passes its checks. -/

theorem exec_dynamic_of_pass {i : Instr} {m : Mode} {k : Kind} {lw : Nat} {op : Op} {s : State}
    (hform : i.form = .arith m .dynamic k lw op) (hcheck : dynamicCheck k (2 ^ lw) s = .ok) :
    exec i s = .next (respond .ok (forLanes (2 ^ lw) (dynamicLane m op k) (probeAndBind s))) := by
  rw [exec_eq_effect, hform]
  obtain ⟨-, hrun⟩ | ⟨hreject, -⟩ := dynamicKernel_cases m op k (2 ^ lw) s
  · exact congrArg Host.Outcome.next hrun
  · exact absurd hcheck hreject

theorem exec_array_of_pass {i : Instr} {m : Mode} {k : Kind} {op : Op} {s : State}
    (hform : i.form = .array m k op) (hcheck : arrayCheck op k s = .ok) :
    exec i s = .next (respond .ok (forLanes s.count.toNat (arrayElement m op k) (probeAndBind s))) := by
  rw [exec_eq_effect, hform]
  obtain ⟨-, hrun⟩ | ⟨hreject, -⟩ := arrayKernel_cases m op k s
  · exact congrArg Host.Outcome.next hrun
  · exact absurd hcheck hreject

/-! The order of the checks (R252). -/

theorem dynamicCheck_of_misaligned {k : Kind} {s : State} (w : Nat) (h : aligned k s.dst = false) :
    dynamicCheck k w s = .align := by
  simp [dynamicCheck, h]

theorem dynamicCheck_of_outside {k : Kind} {w : Nat} {s : State} (halign : aligned k s.dst = true)
    (hrange : rangeOk s.params k w s.dst = false) : dynamicCheck k w s = .range := by
  simp [dynamicCheck, halign, hrange]

theorem dynamicCheck_of_pass {k : Kind} {w : Nat} {s : State} (halign : aligned k s.dst = true)
    (hrange : rangeOk s.params k w s.dst = true) : dynamicCheck k w s = .ok := by
  simp [dynamicCheck, halign, hrange]

/-- Settles O14: alignment is looked at first. -/
theorem dynamicVectorRejects : Obligations.DynamicVectorRejects := by
  intro i m k lw op s hform
  constructor
  · intro hmis
    have hcheck := dynamicCheck_of_misaligned (2 ^ lw) ((aligned_eq_false_iff k s.dst).mpr hmis)
    exact exec_dynamic_of_reject hform hcheck (by decide)
  · intro halign hout
    have hcheck := dynamicCheck_of_outside ((aligned_iff k s.dst).mpr halign)
      ((rangeOk_eq_false_iff s.params k (2 ^ lw) s.dst).mpr hout)
    exact exec_dynamic_of_reject hform hcheck (by decide)

/-- Every base address an array command uses, `DST` among them, passes a test (R63, R64). -/
def allBases (op : Op) (test : Word → Bool) (s : State) : Bool := (usedSources op s ++ [s.dst]).all test

theorem allBases_eq_false_iff (op : Op) (test : Word → Bool) (s : State) :
    allBases op test s = false ↔ test s.dst = false ∨ ∃ b, b ∈ usedSources op s ∧ test b = false := by
  rw [allBases, List.all_eq_false]
  simp [or_and_right, exists_or, or_comm]

theorem allBases_eq_true_iff (op : Op) (test : Word → Bool) (s : State) :
    allBases op test s = true ↔ ¬test s.dst = false ∧ ∀ b, b ∈ usedSources op s → ¬test b = false := by
  simp [allBases, and_comm]

/-- The checks of an array command that has elements, in order (R225, R252). -/
theorem arrayCheck_eq (op : Op) (k : Kind) {s : State} (hn : 0 < s.count.toNat) :
    arrayCheck op k s =
      if allBases op (aligned k) s = false then .align
      else if allBases op (rangeOk s.params k s.count.toNat) s = false then .range
      else if (usedSources op s).any (overlaps k s.count.toNat s.dst) = true then .overlap
      else .ok := by
  simp only [arrayCheck, if_neg (Nat.ne_of_gt hn), Bool.not_eq_true']
  rfl

/-- Settles O16: the checks of `arrayCheck_eq`, each spelled out as the statement has it. -/
theorem arrayRejects : Obligations.ArrayRejects := by
  intro i m k op s hform
  dsimp only
  simp only [← mem_usedSources_iff, ← aligned_eq_false_iff, ← rangeOk_eq_false_iff, ← overlaps_iff,
    ← allBases_eq_false_iff, ← allBases_eq_true_iff]
  intro hn
  have horder := arrayCheck_eq op k hn
  refine ⟨fun hmis => ?_, fun halign hout => ?_, fun halign hrange hover => ?_,
    fun halign hrange hover => ?_⟩
  · refine exec_array_of_reject hform ?_ (by decide : Response.align ≠ .ok)
    rw [horder, if_pos hmis]
  · refine exec_array_of_reject hform ?_ (by decide : Response.range ≠ .ok)
    rw [horder, if_neg (by simp [halign]), if_pos hout]
  · refine exec_array_of_reject hform ?_ (by decide : Response.overlap ≠ .ok)
    rw [horder, if_neg (by simp [halign]), if_neg (by simp [hrange]), if_pos (List.any_eq_true.mpr hover)]
  · have hnone : (usedSources op s).any (overlaps k s.count.toNat s.dst) = false :=
      List.any_eq_false.mpr hover
    rw [horder, if_neg (by simp [halign]), if_neg (by simp [hrange]), if_neg (by simp [hnone])]

end Sys2Proof.Machine
end

section
/-! The draws of a command in closed form (spec/43_prng.md R175, R176; spec/46_dispatch.md R221, R223, R225):
the streams after the elements below `n` have run, from the state before the first of them. -/

namespace Sys2Proof.Machine

/-! How often a stream has served. -/

/-- One application more, on the outside. -/
theorem repeated_succ (f : Stream → Stream) (n : Nat) (x : Stream) :
    repeated f (n + 1) x = f (repeated f n x) := by
  induction n generalizing x with
  | zero => rfl
  | succ n ih => exact ih (f x)

theorem drawsBefore_zero (draws : Nat → Bool) (l : Nat) : drawsBefore draws l 0 = 0 := rfl

/-- Element `n` adds one draw to stream `n mod 16` when it draws (R221). -/
theorem drawsBefore_succ (draws : Nat → Bool) (l n : Nat) :
    drawsBefore draws l (n + 1) = drawsBefore draws l n + if n % 16 = l ∧ draws n = true then 1 else 0 := by
  by_cases h : n % 16 = l ∧ draws n = true <;>
    simp [drawsBefore, List.range_succ, List.filter_append, h]

/-- Up to 16 lanes each stream serves its own lane only (R221). -/
theorem drawsBefore_of_le {n : Nat} (draws : Nat → Bool) (l : Nat) (hn : n ≤ 16) :
    drawsBefore draws l n = if l < n ∧ draws l = true then 1 else 0 := by
  induction n with
  | zero => simp [drawsBefore_zero]
  | succ n ih =>
    rw [drawsBefore_succ, ih (by omega), Nat.mod_eq_of_lt (by omega : n < 16)]
    obtain hlt | rfl | hgt := Nat.lt_trichotomy l n
    · simp [hlt, Nat.lt_succ_of_lt hlt, Nat.ne_of_gt hlt]
    · simp
    · simp [Nat.not_lt_of_gt hgt, Nat.ne_of_lt hgt, show ¬l < n + 1 by omega]

theorem someDraw_eq_true_iff (n : Nat) (draws : Nat → Bool) :
    someDraw n draws = true ↔ ∃ j < n, draws j = true := by
  simp [someDraw]

theorem drawsBefore_eq_zero {n : Nat} {draws : Nat → Bool} (h : someDraw n draws = false) (l : Nat) :
    drawsBefore draws l n = 0 := by
  have hnone : ∀ j < n, draws j = false := by simpa [someDraw] using h
  rw [drawsBefore, List.length_eq_zero_iff, List.filter_eq_nil_iff]
  intro j hj
  simp [hnone j (List.mem_range.mp hj)]

/-! A stream before an element. -/

/-- Stream `l` moves at element `n` when that element is its own and draws (R221, R225). -/
theorem elementStream_succ (draws : Nat → Bool) (l : Fin 16) (n : Nat) (base : State) :
    elementStream draws l (n + 1) base =
      if l = lane n ∧ draws n = true then
        advance base.params.prng (elementStream draws l n base)
      else elementStream draws l n base := by
  have hlane : l = lane n ↔ n % 16 = l.val := by rw [Fin.ext_iff, lane_val, eq_comm]
  simp only [elementStream, drawsBefore_succ, hlane]
  split
  · exact repeated_succ _ _ _
  · rfl

theorem elementStream_of_noDraw {n : Nat} {draws : Nat → Bool} (h : someDraw n draws = false) (l : Fin 16)
    (base : State) : elementStream draws l n base = base.streams[l] := by
  rw [elementStream, drawsBefore_eq_zero h]
  rfl

/-- Before lane `j` below 16 its own stream has served nobody (R221). -/
theorem elementStream_lane (draws : Nat → Bool) (j : Fin 16) (base : State) :
    elementStream draws (lane j.val) j.val base = base.streams[j] := by
  rw [lane_of_lt, elementStream, drawsBefore_of_le _ _ j.isLt.le, if_neg (by simp)]
  rfl

/-! The state after the draws. -/

/-- The state `base` with the streams moved by the elements below `n`. -/
def streamsAfter (n : Nat) (draws : Nat → Bool) (base : State) : State :=
  { base with streams := Vector.ofFn fun l => elementStream draws l n base }

theorem afterElementDraws_eq (n : Nat) (draws : Nat → Bool) (s : State) :
    afterElementDraws n draws s = streamsAfter n draws (drawBase n draws s) := rfl

/-- On up to 16 lanes the closed form of the lane commands is that of the array commands. -/
theorem afterLaneDraws_eq {n : Nat} (hn : n ≤ 16) (draws : Nat → Bool) (s : State) :
    afterLaneDraws n draws s = afterElementDraws n draws s := by
  have hstream (base : State) (l : Fin 16) : elementStream draws l n base =
      if l.val < n && draws l.val then advance base.params.prng base.streams[l] else base.streams[l] := by
    rw [elementStream, drawsBefore_of_le _ _ hn]
    by_cases h : l.val < n ∧ draws l.val = true <;> simp [h, repeated]
  simp only [afterLaneDraws, afterElementDraws, hstream]

theorem streamsAfter_rngInit (n : Nat) (draws : Nat → Bool) (base : State) :
    (streamsAfter n draws base).rngInit = base.rngInit := by
  simp only [streamsAfter]

theorem streamsAfter_getElem (n : Nat) (draws : Nat → Bool) (base : State) (l : Fin 16) :
    (streamsAfter n draws base).streams[l] = elementStream draws l n base := by
  simp [streamsAfter]

theorem streamsAfter_of_noDraw {n : Nat} {draws : Nat → Bool} (h : someDraw n draws = false)
    (base : State) : streamsAfter n draws base = base := by
  have hstreams : (Vector.ofFn fun l => elementStream draws l n base) = base.streams := by
    ext i hi
    simp [elementStream_of_noDraw h]
  rw [streamsAfter, hstreams]

theorem streamsAfter_succ_of_noDraw {n : Nat} {draws : Nat → Bool} (h : draws n = false) (base : State) :
    streamsAfter (n + 1) draws base = streamsAfter n draws base := by
  simp [streamsAfter, elementStream_succ, h]

/-- A draw of element `n` moves stream `n mod 16` (R176, R221). -/
theorem streamsAfter_succ_of_draw {n : Nat} {draws : Nat → Bool} (h : draws n = true) (base : State) :
    setStream (lane n) (advance base.params.prng (streamsAfter n draws base).streams[lane n])
      (streamsAfter n draws base) = streamsAfter (n + 1) draws base := by
  have hstreams : (Vector.ofFn fun l => elementStream draws l n base).set (lane n)
      (advance base.params.prng (elementStream draws (lane n) n base)) =
      Vector.ofFn fun l => elementStream draws l (n + 1) base := by
    ext l hl
    have hset := getElem_set_fin (Vector.ofFn fun l => elementStream draws l n base) (lane n) ⟨l, hl⟩
      (advance base.params.prng (elementStream draws (lane n) n base))
    simp only [Fin.getElem_fin] at hset
    rw [hset, Vector.getElem_ofFn, Vector.getElem_ofFn, elementStream_succ, h]
    split_ifs with h1 h2 h2 <;> simp_all
  rw [streamsAfter_getElem]
  simp only [streamsAfter, setStream, hstreams]

/-! Lazy initialisation among the draws. -/

theorem drawBase_of_draw {n j : Nat} {draws : Nat → Bool} (hj : j < n) (h : draws j = true) (s : State) :
    drawBase n draws s = lazyInit s :=
  if_pos ((someDraw_eq_true_iff n draws).mpr ⟨j, hj, h⟩)

/-- A further draw finds the streams initialised, or initialises them first (R175). -/
theorem lazyInit_afterElementDraws (n : Nat) (draws : Nat → Bool) (s : State) :
    lazyInit (afterElementDraws n draws s) = streamsAfter n draws (lazyInit s) := by
  rw [afterElementDraws_eq, drawBase]
  cases h : someDraw n draws with
  | true =>
    rw [if_pos rfl]
    exact lazyInit_of_init ((streamsAfter_rngInit n draws _).trans (lazyInit_rngInit s))
  | false => simp [streamsAfter_of_noDraw h]

theorem afterElementDraws_succ_of_noDraw {n : Nat} {draws : Nat → Bool} (h : draws n = false) (s : State) :
    afterElementDraws (n + 1) draws s = afterElementDraws n draws s := by
  have hsome : someDraw (n + 1) draws = someDraw n draws := by
    simp [someDraw, List.range_succ, h]
  rw [afterElementDraws_eq, afterElementDraws_eq, drawBase, drawBase, hsome, streamsAfter_succ_of_noDraw h]

theorem afterElementDraws_succ_of_draw {n : Nat} {draws : Nat → Bool} (h : draws n = true) (s : State) :
    afterElementDraws (n + 1) draws s = streamsAfter (n + 1) draws (lazyInit s) := by
  rw [afterElementDraws_eq, drawBase_of_draw n.lt_succ_self h]

@[simp] theorem lazyInit_params (s : State) : (lazyInit s).params = s.params := (keepsInputs_lazyInit s).params

theorem keepsInputs_drawBase (n : Nat) (draws : Nat → Bool) (s : State) :
    KeepsInputs s (drawBase n draws s) := by
  rw [drawBase]
  split
  · exact keepsInputs_lazyInit s
  · rfl

theorem keepsInputs_streamsAfter (n : Nat) (draws : Nat → Bool) (base : State) :
    KeepsInputs base (streamsAfter n draws base) := by
  simp only [KeepsInputs, streamsAfter]

theorem keepsInputs_afterElementDraws (n : Nat) (draws : Nat → Bool) (s : State) :
    KeepsInputs s (afterElementDraws n draws s) := by
  rw [afterElementDraws_eq]
  exact (keepsInputs_drawBase n draws s).trans (keepsInputs_streamsAfter n draws _)

/-! Running the lane functions. -/

/-- The result of element `j` when the elements before it have run: its lane function on the raw draw of
stream `j mod 16` that follows theirs (R221, R225). -/
def drawnValue {w : Nat} (l : Nat → Lane w) (s : State) (j : Nat) : BitVec w :=
  (l j).value (out s.params.prng (elementStream (fun i => (l i).draws) (lane j) j (lazyInit s)))

/-- The value of a lane function that does not draw does not depend on the raw draw. -/
theorem Lane.value_of_noDraw {w : Nat} {l : Lane w} (h : l.draws = false) (r r' : Word) :
    l.value r = l.value r' := by
  cases l with
  | plain v => rfl
  | draw f => cases h

/-- An element's value from the common starting state of `n` elements (R175). -/
theorem value_drawBase {w n j : Nat} (l : Nat → Lane w) (s : State) (hj : j < n) :
    (l j).value (out s.params.prng
      (elementStream (fun i => (l i).draws) (lane j) j (drawBase n (fun i => (l i).draws) s))) =
      drawnValue l s j := by
  cases h : (l j).draws with
  | true => rw [drawBase_of_draw hj h, drawnValue]
  | false => exact Lane.value_of_noDraw h _ _

/-- The same for lane `j` of a lane command, whose stream has served nobody before. -/
theorem laneValue_drawBase {w n : Nat} (l : Nat → Lane w) (s : State) {j : Fin 16} (hj : j.val < n) :
    laneValue (l j.val) j (drawBase n (fun i => (l i).draws) s) = drawnValue l s j.val := by
  rw [← value_drawBase l s hj, elementStream_lane, laneValue, (keepsInputs_drawBase _ _ s).params]

/-- Element `n` runs when those before it have: its value, and the draws of one element more. -/
theorem run_afterElementDraws {w : Nat} (l : Nat → Lane w) (n : Nat) (s : State) :
    (l n).run (lane n) (afterElementDraws n (fun j => (l j).draws) s) =
      (drawnValue l s n, afterElementDraws (n + 1) (fun j => (l j).draws) s) := by
  rw [drawnValue]
  cases h : l n with
  | plain v =>
    have hdraws : (l n).draws = false := by rw [h]; rfl
    rw [Lane.run_plain, afterElementDraws_succ_of_noDraw hdraws]
    rfl
  | draw f =>
    have hdraws : (l n).draws = true := by rw [h]; rfl
    have hparams : (afterElementDraws n (fun j => (l j).draws) s).params = (lazyInit s).params :=
      (keepsInputs_afterElementDraws _ _ s).params.trans (lazyInit_params s).symm
    rw [Lane.run_draw, drawRaw_eq, lazyInit_afterElementDraws, hparams, streamsAfter_succ_of_draw hdraws,
      streamsAfter_getElem, afterElementDraws_succ_of_draw hdraws, lazyInit_params]
    rfl

/-! Memory plays no part in a draw. -/

/-- Setting data memory alone (R60). -/
def setMem (mem : Memory) (s : State) : State := { s with mem := mem }

@[simp] theorem setMem_mem (mem : Memory) (s : State) : (setMem mem s).mem = mem := rfl

theorem keepsInputs_setMem (mem : Memory) (s : State) : KeepsInputs s (setMem mem s) := rfl

theorem storeElement_setMem (k : Kind) (a : Nat) (v : Pat k) (mem : Memory) (s : State) :
    storeElement k a v (setMem mem s) = setMem (writeElement k mem a v) s := rfl

theorem respond_setMem (c : Response) (mem : Memory) (s : State) :
    respond c (setMem mem s) = { s with mem := mem, err := c } := rfl

theorem lazyInit_setMem (mem : Memory) (s : State) : lazyInit (setMem mem s) = setMem mem (lazyInit s) := by
  unfold lazyInit
  cases hinit : s.rngInit <;> cases hovr : s.seedOvrEn <;> simp [setMem, hinit, hovr, seedAll]

theorem run_setMem {w : Nat} (l : Lane w) (i : Fin 16) (mem : Memory) (s : State) :
    l.run i (setMem mem s) = ((l.run i s).1, setMem mem (l.run i s).2) := by
  cases l with
  | plain v => rfl
  | draw f =>
    simp only [Lane.run_draw, drawRaw_eq, lazyInit_setMem]
    rfl

end Sys2Proof.Machine
end

section
/-! The commands that store: O13, O15 (spec/20_memory.md R62, R65, R68; spec/46_dispatch.md R221, R224,
R225). One loop invariant serves both; it asks that each element's lane function be the one the state before
the command gives, which for an array command is what the overlap check is for. -/

namespace Sys2Proof.Machine

/-! The loop that stores elements. -/

/-- What holds when the elements below `n`, with the lane functions `l`, have been drawn for and stored at
`DST`, starting from `s`. -/
structure ElementsStored (k : Kind) (l : Nat → Lane k.width) (s : State) (n : Nat) (t : State) : Prop where
  frame : t = setMem t.mem (afterElementDraws n (fun j => (l j).draws) s)
  wf : Memory.wf t.mem = true
  inside : ∀ j < n, readElement k t.mem (elementAddr k s.dst j) = drawnValue l s j
  outside : ∀ a, a < s.dst.toNat ∨ s.dst.toNat + n * k.bytes ≤ a → Memory.read t.mem a = Memory.read s.mem a

section
variable {k : Kind} {l : Nat → Lane k.width} {s t : State} {n : Nat}

theorem ElementsStored.zero (hwf : Memory.wf s.mem = true) : ElementsStored k l s 0 s where
  frame := by
    rw [afterElementDraws_eq, streamsAfter_of_noDraw rfl]
    rfl
  wf := hwf
  inside := fun _ hj => absurd hj (Nat.not_lt_zero _)
  outside := fun _ _ => rfl

theorem ElementsStored.keepsInputs (h : ElementsStored k l s n t) : KeepsInputs s t := by
  have hmem : KeepsInputs (afterElementDraws n (fun j => (l j).draws) s) t := by
    rw [h.frame]
    exact keepsInputs_setMem _ _
  exact (keepsInputs_afterElementDraws n _ s).trans hmem

/-- Elements of one buffer do not meet (R62). -/
theorem elementAddr_disjoint (base : Word) {i j : Nat} (h : j < i) :
    elementAddr k base j + k.bytes ≤ elementAddr k base i := by
  have hmul : (j + 1) * k.bytes ≤ i * k.bytes := Nat.mul_le_mul_right _ h
  rw [Nat.succ_mul] at hmul
  unfold elementAddr
  omega

/-- The next element is drawn for and stored. -/
theorem ElementsStored.succ (h : ElementsStored k l s n t) (hbound : elementAddr k s.dst n + k.bytes ≤ 2 ^ 64) :
    ElementsStored k l s (n + 1) (runToMem k (l n) (lane n) (elementAddr k s.dst n) t) := by
  have hrun : runToMem k (l n) (lane n) (elementAddr k s.dst n) t =
      setMem (writeElement k t.mem (elementAddr k s.dst n) (drawnValue l s n))
        (afterElementDraws (n + 1) (fun j => (l j).draws) s) := by
    rw [h.frame, runToMem, run_setMem, run_afterElementDraws, storeElement_setMem, setMem_mem]
  rw [hrun]
  refine ⟨by rw [setMem_mem], writeElement_wf k _ h.wf hbound, fun j hj => ?_, fun a ha => ?_⟩
  · obtain hlt | rfl := Nat.lt_succ_iff_lt_or_eq.mp hj
    · exact (readElement_writeElement_disjoint k _ _ (.inl (elementAddr_disjoint s.dst hlt))).trans
        (h.inside j hlt)
    · exact readElement_writeElement_self k _ h.wf hbound
  · rw [Nat.succ_mul] at ha
    have hbefore : a < s.dst.toNat ∨ s.dst.toNat + n * k.bytes ≤ a := by omega
    have haddr : a < elementAddr k s.dst n ∨ elementAddr k s.dst n + k.bytes ≤ a := by
      unfold elementAddr
      omega
    exact (read_writeElement_outside k _ _ haddr).trans (h.outside a hbefore)

/-- The loop stores every element, if element `i` runs the lane function `l i` once those before it are
stored. -/
theorem elementsStored_forLanes {body : Nat → State → State} (hwf : Memory.wf s.mem = true)
    (hbound : s.dst.toNat + n * k.bytes ≤ 2 ^ 64)
    (hbody : ∀ i t, i < n → ElementsStored k l s i t →
      body i t = runToMem k (l i) (lane i) (elementAddr k s.dst i) t) :
    ElementsStored k l s n (forLanes n body s) :=
  forLanes_induct (ElementsStored k l s) (.zero hwf) fun i t hi ht => by
    rw [hbody i t hi ht]
    exact ht.succ (elementAddr_bound hi hbound)

/-- The response after the loop: the state without its memory is the closed form. -/
theorem ElementsStored.respond_eq (h : ElementsStored k l s n t) :
    respond .ok t = { afterElementDraws n (fun j => (l j).draws) s with mem := t.mem, err := .ok } := by
  conv_lhs => rw [h.frame]
  exact respond_setMem .ok _ _

end

/-! Where the operands stand. -/

theorem laneOperands_of_keepsInputs {s t : State} (h : KeepsInputs s t) (op : Op) (k : Kind) (i : Fin 16) :
    laneOperands op k i t = laneOperands op k i s := by
  unfold KeepsInputs at h
  rw [h]
  rfl

theorem dst_of_keepsInputs {s t : State} (h : KeepsInputs s t) : t.dst = s.dst := by
  unfold KeepsInputs at h
  rw [h]

/-- The operands of an element are the elements of its sources (R92): where those are the same, it has the
same operands. -/
theorem elementOperands_congr {op : Op} {k : Kind} {j : Nat} {s t : State} (hkeeps : KeepsInputs s t)
    (h : ∀ b ∈ usedSources op s,
      readElement k t.mem (elementAddr k b j) = readElement k s.mem (elementAddr k b j)) :
    elementOperands op k j t = elementOperands op k j s := by
  have ha := h s.srca (by simp [usedSources])
  have hb (h2 : 2 ≤ arity op) := h s.srcb (by simp [usedSources, h2])
  have hc (h3 : 3 ≤ arity op) := h s.srcc (by simp [usedSources, h3])
  unfold KeepsInputs at hkeeps
  have hsrc : t.srca = s.srca ∧ t.srcb = s.srcb ∧ t.srcc = s.srcc := by
    rw [hkeeps]
    exact ⟨rfl, rfl, rfl⟩
  obtain ⟨hsrca, hsrcb, hsrcc⟩ := hsrc
  rw [elementOperands, elementOperands, hsrca, hsrcb, hsrcc, ha]
  congr 1
  · exact ite_congr rfl hb fun _ => rfl
  · exact ite_congr rfl hc fun _ => rfl

/-! Dynamic vector commands. -/

/-- A dynamic vector command that passes its checks stores its lanes at `DST` (R224). -/
theorem dynamicLanes_stored (m : Mode) (op : Op) {k : Kind} {w : Nat} {s : State}
    (hwf : Memory.wf s.mem = true) (hbound : s.dst.toNat + w * k.bytes ≤ 2 ^ 64) :
    ElementsStored k (kernelLanes m op k s) (probeAndBind s) w
      (forLanes w (dynamicLane m op k) (probeAndBind s)) := by
  have hprobe := keepsInputs_probeAndBind s
  refine elementsStored_forLanes (by rwa [probeAndBind_mem]) (by rwa [dst_of_keepsInputs hprobe]) ?_
  intro i t _ ht
  rw [dynamicLane, dst_of_keepsInputs ht.keepsInputs,
    laneOperands_of_keepsInputs (hprobe.trans ht.keepsInputs)]
  rfl

/-- A vector command has at most 16 lanes (R84). -/
theorem dynamic_lanes_le {i : Instr} {m : Mode} {k : Kind} {lw : Nat} {op : Op}
    (h : i.form = .arith m .dynamic k lw op) : 2 ^ lw ≤ 16 := by
  have hshape := arith_shape h
  have hlw : lw ≤ 4 := by
    simp only [arithShapeOk, laneWidthOk, Bool.and_eq_true, decide_eq_true_eq] at hshape
    exact hshape.2
  exact Nat.pow_le_pow_right (by decide) hlw

/-- Settles O13: the storing loop, in the closed form of at most 16 lanes. -/
theorem dynamicVectorResult : Obligations.DynamicVectorResult := by
  intro i m k lw op s hform hwf halign hbound hvalid
  have hcheck : dynamicCheck k (2 ^ lw) s = .ok :=
    dynamicCheck_of_pass ((aligned_iff k s.dst).mpr halign) (rangeOk_of_bound hbound hvalid)
  have hstored := dynamicLanes_stored m op hwf hbound
  have hdst : (probeAndBind s).dst = s.dst := dst_of_keepsInputs (keepsInputs_probeAndBind s)
  refine ⟨_, exec_dynamic_of_pass hform hcheck, ?_, fun j hj => ?_, fun a ha => ?_⟩
  · rw [afterLaneDraws_eq (dynamic_lanes_le hform)]
    exact hstored.respond_eq
  · rw [laneValue_drawBase _ _ hj, ← hdst]
    exact hstored.inside j.val hj
  · rw [← hdst] at ha
    exact (hstored.outside a ha).trans (by rw [probeAndBind_mem])

/-! Array commands. -/

/-- A source that does not overlap the destination partially keeps its elements from `j` on while the
elements below `j` are stored (R65, R68). -/
theorem ElementsStored.source_unchanged {k : Kind} {l : Nat → Lane k.width} {s t : State} {n j : Nat}
    {b : Word} (h : ElementsStored k l s j t) (hj : j < n) (hb : overlaps k n s.dst b = false) :
    readElement k t.mem (elementAddr k b j) = readElement k s.mem (elementAddr k b j) := by
  have hmul : (j + 1) * k.bytes ≤ n * k.bytes := Nat.mul_le_mul_right _ hj
  rw [Nat.succ_mul] at hmul
  have hsep : b = s.dst ∨ s.dst.toNat + n * k.bytes ≤ b.toNat ∨ b.toNat + n * k.bytes ≤ s.dst.toNat := by
    rw [← Bool.not_eq_true, overlaps_iff] at hb
    by_cases heq : b = s.dst
    · exact .inl heq
    · have hapart : ¬(b.toNat < s.dst.toNat + n * k.bytes ∧ s.dst.toNat < b.toNat + n * k.bytes) :=
        fun h => hb ⟨heq, h⟩
      omega
  refine readElement_congr k fun i hi => h.outside _ ?_
  unfold elementAddr
  obtain rfl | hsep := hsep <;> omega

/-- The checks of an array command with elements, passed, leave no partial overlap (R65). -/
theorem not_overlaps_of_arrayCheck {op : Op} {k : Kind} {s : State} (hn : 0 < s.count.toNat)
    (h : arrayCheck op k s = .ok) : ∀ b ∈ usedSources op s, overlaps k s.count.toNat s.dst b = false := by
  rw [arrayCheck_eq op k hn] at h
  split_ifs at h with halign hrange hoverlap
  simpa using hoverlap

/-- An array command that passes its checks stores the elements computed on the memory before it (R68,
R225). -/
theorem arrayElements_stored (m : Mode) {op : Op} {k : Kind} {s : State} (hwf : Memory.wf s.mem = true)
    (hn : 0 < s.count.toNat) (hcheck : arrayCheck op k s = .ok) :
    ElementsStored k (kernelElements m op k s) (probeAndBind s) s.count.toNat
      (forLanes s.count.toNat (arrayElement m op k) (probeAndBind s)) := by
  have hprobe := keepsInputs_probeAndBind s
  have hdst : (probeAndBind s).dst = s.dst := dst_of_keepsInputs hprobe
  have hbound := arrayCheck_bound hcheck
  refine elementsStored_forLanes (by rwa [probeAndBind_mem]) (by rwa [hdst]) ?_
  intro j t hj ht
  have hoperands : elementOperands op k j t = elementOperands op k j s := by
    refine elementOperands_congr (hprobe.trans ht.keepsInputs) fun b hb => ?_
    have hb' := not_overlaps_of_arrayCheck hn hcheck b hb
    rw [← hdst] at hb'
    rw [ht.source_unchanged hj hb', probeAndBind_mem]
  rw [arrayElement, dst_of_keepsInputs ht.keepsInputs, hoperands]
  rfl

/-- Settles O15: the storing loop, whose elements do not see each other. -/
theorem arrayResult : Obligations.ArrayResult := by
  intro i m k op s n hform hwf hcount hn hcheck
  subst hcount
  have hstored := arrayElements_stored m hwf hn hcheck
  have hprobe := keepsInputs_probeAndBind s
  have hdst : (probeAndBind s).dst = s.dst := dst_of_keepsInputs hprobe
  refine ⟨_, exec_array_of_pass hform hcheck, hstored.respond_eq, fun j hj => ?_, fun a ha => ?_⟩
  · rw [← hprobe.params, value_drawBase _ _ hj, ← hdst]
    exact hstored.inside j hj
  · rw [← hdst] at ha
    exact (hstored.outside a ha).trans (by rw [probeAndBind_mem])

end Sys2Proof.Machine
end

section
/-! The example words of the encoding: O2 (spec/30_encoding.md R93). What decodes to a command is that command's
word, so an example is checked by encoding its command. -/

namespace Sys2Proof.Machine

/-- O1 as a rewriting rule. -/
theorem decode_eq_ok_iff (v : Word) (i : Instr) : decode v = .ok i ↔ v = encodeCmd i :=
  commandsAreExactlyTheirWords v i

/-- Settles O2: by O1 each example says that a word is its command's, and the encoder gives that word. -/
theorem exampleWordsDecode : Obligations.ExampleWordsDecode := by
  unfold Obligations.ExampleWordsDecode
  simp only [decode_eq_ok_iff]
  decide

end Sys2Proof.Machine
end

section
/-! The fields of a pattern and the classes they make: O50 (spec/40_format_primitives.md R110 to R114). A
pattern is its sign bit, its exponent field and its mantissa field; all that follows goes through them. -/

namespace Sys2Proof.Machine

section
variable {k : Kind}

/-! The descriptor (R110). -/

theorem emin_eq (k : Kind) : k.emin = 1 - k.bias := by cases k <;> rfl

theorem expAll_eq (k : Kind) : (expAll k : ℤ) = k.emax + k.bias + 1 := by cases k <;> rfl

theorem expAll_succ (k : Kind) : expAll k + 1 = 2 ^ k.expBits := by cases k <;> rfl

theorem one_lt_expAll (k : Kind) : 1 < expAll k := by cases k <;> decide

/-! The masks read and test the fields (R111). -/

theorem mantField_eq (x : Pat k) : mantField k x = x.toNat % 2 ^ k.mant := by
  have hmask : (mantMask k).toNat = 2 ^ k.mant - 1 := by cases k <;> rfl
  rw [mantField, BitVec.toNat_and, hmask, Nat.and_two_pow_sub_one_eq_mod]

theorem expField_eq (x : Pat k) : expField k x = x.toNat / 2 ^ k.mant % 2 ^ k.expBits := by
  have hmask : (expMask k).toNat >>> k.mant = 2 ^ k.expBits - 1 := by cases k <;> rfl
  rw [expField, BitVec.toNat_ushiftRight, BitVec.toNat_and, Nat.shiftRight_and_distrib, hmask,
    Nat.and_two_pow_sub_one_eq_mod, Nat.shiftRight_eq_div_pow]

theorem mantField_lt (x : Pat k) : mantField k x < 2 ^ k.mant := by
  rw [mantField_eq]
  exact Nat.mod_lt _ (Nat.two_pow_pos _)

theorem expField_le (x : Pat k) : expField k x ≤ expAll k := by
  have hlt : expField k x < 2 ^ k.expBits := by
    rw [expField_eq]
    exact Nat.mod_lt _ (Nat.two_pow_pos _)
  have hsucc := expAll_succ k
  omega

theorem toNat_and_expMask (x : Pat k) : (x &&& expMask k).toNat = expField k x * 2 ^ k.mant := by
  have hlow : (x &&& expMask k).toNat % 2 ^ k.mant = 0 := by
    have hmask : (expMask k).toNat % 2 ^ k.mant = 0 := by cases k <;> rfl
    rw [BitVec.toNat_and, Nat.and_mod_two_pow, hmask, Nat.and_zero]
  rw [expField, BitVec.toNat_ushiftRight, Nat.shiftRight_eq_div_pow]
  exact (Nat.div_mul_cancel (Nat.dvd_of_mod_eq_zero hlow)).symm

theorem toNat_and_not_signMask (x : Pat k) :
    (x &&& ~~~signMask k).toNat = expField k x * 2 ^ k.mant + mantField k x := by
  have hmask : (~~~signMask k).toNat = 2 ^ (k.mant + k.expBits) - 1 := by cases k <;> rfl
  rw [BitVec.toNat_and, hmask, Nat.and_two_pow_sub_one_eq_mod, Nat.pow_add, Nat.mod_mul, ← mantField_eq,
    ← expField_eq]
  ring

theorem and_expMask_eq_iff (x : Pat k) : x &&& expMask k = expMask k ↔ expField k x = expAll k := by
  have hmask : (expMask k).toNat = expAll k * 2 ^ k.mant := by cases k <;> rfl
  rw [← BitVec.toNat_inj, toNat_and_expMask, hmask]
  exact Nat.mul_left_inj (Nat.two_pow_pos _).ne'

theorem and_not_signMask_eq_zero_iff (x : Pat k) :
    x &&& ~~~signMask k = 0#k.width ↔ expField k x = 0 ∧ mantField k x = 0 := by
  rw [← BitVec.toNat_inj, toNat_and_not_signMask, BitVec.toNat_ofNat, Nat.zero_mod, Nat.add_eq_zero_iff,
    Nat.mul_eq_zero, or_iff_left (Nat.two_pow_pos _).ne']

/-! The classes (R112, R113). -/

theorem isZero_iff (x : Pat k) : isZero k x = true ↔ expField k x = 0 ∧ mantField k x = 0 := by simp [isZero]

theorem isSubnormal_iff (x : Pat k) : isSubnormal k x = true ↔ expField k x = 0 ∧ mantField k x ≠ 0 := by
  simp [isSubnormal]

theorem isNormal_iff (x : Pat k) : isNormal k x = true ↔ expField k x ≠ 0 ∧ expField k x ≠ expAll k := by
  simp [isNormal]

theorem isInf_iff (x : Pat k) : isInf k x = true ↔ expField k x = expAll k ∧ mantField k x = 0 := by
  simp [isInf]

theorem isNan_iff (x : Pat k) : isNan k x = true ↔ expField k x = expAll k ∧ mantField k x ≠ 0 := by
  simp [isNan]

theorem isFinite_iff (x : Pat k) : isFinite k x = true ↔ expField k x ≠ expAll k := by
  have hall := one_lt_expAll k
  simp only [isFinite, Bool.or_eq_true, isZero_iff, isSubnormal_iff, isNormal_iff]
  omega

theorem isNumber_iff (x : Pat k) :
    isNumber k x = true ↔ ¬(expField k x = 0 ∧ mantField k x = 0) ∧ expField k x ≠ expAll k := by
  rw [isNumber, Bool.and_eq_true, bne_iff_ne, bne_iff_ne, Ne, Ne, and_not_signMask_eq_zero_iff,
    and_expMask_eq_iff]

theorem isFinite_of_isNumber {x : Pat k} (h : isNumber k x = true) : isFinite k x = true :=
  (isFinite_iff x).mpr ((isNumber_iff x).mp h).2

theorem isNumber_eq (x : Pat k) : isNumber k x = (isSubnormal k x || isNormal k x) := by
  have hall := one_lt_expAll k
  rw [Bool.eq_iff_iff, Bool.or_eq_true, isNumber_iff, isSubnormal_iff, isNormal_iff]
  omega

/-- Which of the five classes a pattern is in is decided by its exponent field, zero, `EALL` or another, and
in the first two cases by whether its mantissa field is zero. -/
theorem count_classes (x : Pat k) :
    [isZero k x, isSubnormal k x, isNormal k x, isInf k x, isNan k x].count true = 1 := by
  have hall : (0 == expAll k) = false := by cases k <;> rfl
  simp only [isZero, isSubnormal, isNormal, isInf, isNan, bne]
  by_cases hzero : expField k x = 0
  · rw [hzero, hall]
    cases mantField k x == 0 <;> rfl
  · rw [beq_false_of_ne hzero]
    cases expField k x == expAll k <;> cases mantField k x == 0 <;> rfl

end

/-- Settles O50: the classes by their fields. -/
theorem patternClasses : Obligations.PatternClasses := by
  intro k x
  have hle := expField_le x
  have hnormal : isNormal k x = true ↔ 1 ≤ expField k x ∧ expField k x ≤ expAll k - 1 := by
    have hall := one_lt_expAll k
    rw [isNormal_iff]
    omega
  exact ⟨isZero_iff x, isSubnormal_iff x, hnormal, isInf_iff x, isNan_iff x, count_classes x, rfl,
    isNumber_eq x, rfl⟩

/-! A pattern built from its fields. -/

section
variable {k : Kind} {e t : Nat}

/-- The pattern with the sign bit `s`, the exponent field `e` and the mantissa field `t`. -/
def ofFields (k : Kind) (s : Bool) (e t : Nat) : Pat k :=
  signBit k s ||| BitVec.ofNat k.width (e <<< k.mant) ||| BitVec.ofNat k.width t

theorem width_eq (k : Kind) : k.width = k.expBits + k.mant + 1 := by cases k <;> rfl

/-- The bits below the sign bit hold any two fields. -/
theorem joinFields_lt (he : e ≤ expAll k) (ht : t < 2 ^ k.mant) :
    e * 2 ^ k.mant + t < 2 ^ (k.expBits + k.mant) := by
  have hmul : (e + 1) * 2 ^ k.mant ≤ 2 ^ k.expBits * 2 ^ k.mant :=
    Nat.mul_le_mul_right _ (by rw [← expAll_succ]; omega)
  rw [Nat.succ_mul] at hmul
  rw [Nat.pow_add]
  omega

theorem signBit_toNat (k : Kind) (s : Bool) : (signBit k s).toNat = 2 ^ (k.expBits + k.mant) * s.toNat := by
  cases s <;> cases k <;> rfl

theorem ofFields_toNat (s : Bool) (he : e ≤ expAll k) (ht : t < 2 ^ k.mant) :
    (ofFields k s e t).toNat = 2 ^ (k.expBits + k.mant) * s.toNat + (e * 2 ^ k.mant + t) := by
  have hlow := joinFields_lt he ht
  have hwidth : 2 ^ (k.expBits + k.mant) ≤ 2 ^ k.width := Nat.pow_le_pow_right (by decide) (by rw [width_eq]; omega)
  rw [ofFields, BitVec.or_assoc, BitVec.toNat_or, BitVec.toNat_or, BitVec.toNat_ofNat, BitVec.toNat_ofNat,
    Nat.shiftLeft_eq, Nat.mod_eq_of_lt (by omega), Nat.mod_eq_of_lt (by omega), signBit_toNat,
    Nat.mul_comm e, ← Nat.two_pow_add_eq_or_of_lt ht, ← Nat.two_pow_add_eq_or_of_lt (by rwa [Nat.mul_comm])]

theorem mantField_ofFields (s : Bool) (he : e ≤ expAll k) (ht : t < 2 ^ k.mant) :
    mantField k (ofFields k s e t) = t := by
  rw [mantField_eq, ofFields_toNat s he ht]
  cases k <;> simp only [Kind.mant, Kind.expBits] at * <;> omega

theorem expField_ofFields (s : Bool) (he : e ≤ expAll k) (ht : t < 2 ^ k.mant) :
    expField k (ofFields k s e t) = e := by
  rw [expField_eq, ofFields_toNat s he ht]
  cases k <;> simp only [Kind.mant, Kind.expBits, expAll] at * <;> omega

theorem sign_eq (x : Pat k) : sign k x = decide (2 ^ (k.expBits + k.mant) ≤ x.toNat) := by
  cases k <;> exact BitVec.msb_eq_decide x

theorem sign_ofFields (s : Bool) (he : e ≤ expAll k) (ht : t < 2 ^ k.mant) : sign k (ofFields k s e t) = s := by
  have hlow := joinFields_lt he ht
  rw [sign_eq, ofFields_toNat s he ht]
  cases s
  · exact decide_eq_false (by rw [Bool.toNat_false]; omega)
  · exact decide_eq_true (by rw [Bool.toNat_true]; omega)

theorem toNat_eq_fields (x : Pat k) :
    x.toNat = 2 ^ (k.expBits + k.mant) * (sign k x).toNat + (expField k x * 2 ^ k.mant + mantField k x) := by
  have hlow : x.toNat % 2 ^ (k.expBits + k.mant) = expField k x * 2 ^ k.mant + mantField k x := by
    rw [Nat.add_comm k.expBits, Nat.pow_add, Nat.mod_mul, ← mantField_eq, ← expField_eq]
    ring
  have hhigh : x.toNat / 2 ^ (k.expBits + k.mant) = (sign k x).toNat := by
    have hlt : x.toNat < 2 ^ (k.expBits + k.mant + 1) := lt_of_lt_of_eq x.isLt (congrArg (2 ^ ·) (width_eq k))
    rw [Nat.pow_succ] at hlt
    rw [sign_eq]
    by_cases hle : 2 ^ (k.expBits + k.mant) ≤ x.toNat
    · rw [decide_eq_true hle]
      exact Nat.div_eq_of_lt_le (by rw [Bool.toNat_true]; omega) (by rw [Bool.toNat_true]; omega)
    · rw [decide_eq_false hle]
      exact Nat.div_eq_of_lt (by omega)
  rw [← hlow, ← hhigh, Nat.div_add_mod]

/-- A pattern is its three fields. -/
theorem ofFields_self (x : Pat k) : ofFields k (sign k x) (expField k x) (mantField k x) = x := by
  apply BitVec.eq_of_toNat_eq
  rw [ofFields_toNat _ (expField_le x) (mantField_lt x), ← toNat_eq_fields]

end

end Sys2Proof.Machine
end

section
/-! Values and rounding: O51, O52, O53 (spec/40_format_primitives.md R115 to R118). The magnitude of a finite
pattern is an integer significand times the spacing at its exponent, and rounding takes the nearest integer of
a value over the spacing at the value's exponent. -/

namespace Sys2Proof.Machine

/-! The integer and the exponent that a positive value is rounded by. -/

theorem pow2Rat_eq (e : ℤ) : pow2Rat e = 2 ^ e := by
  unfold pow2Rat
  split_ifs with he
  · rw [Nat.cast_pow, Nat.cast_ofNat, ← zpow_natCast, Int.toNat_of_nonneg he]
  · rw [Nat.cast_pow, Nat.cast_ofNat, ← zpow_natCast, Int.toNat_of_nonneg (by omega), one_div,
      ← zpow_neg, neg_neg]

theorem two_zpow_pos (e : ℤ) : (0 : ℚ) < 2 ^ e := zpow_pos two_pos e

theorem two_pow_mul_zpow (n : ℕ) (e : ℤ) : ((2 ^ n : ℕ) : ℚ) * 2 ^ e = 2 ^ (n + e) := by
  rw [Nat.cast_pow, Nat.cast_ofNat, ← zpow_natCast, ← zpow_add₀ two_ne_zero]

/-- The bit lengths of numerator and denominator give the binary logarithm up to one. -/
theorem log2_div_bounds {n d : ℕ} (hn : n ≠ 0) (hd : d ≠ 0) :
    (2 : ℚ) ^ ((n.log2 : ℤ) - d.log2 - 1) ≤ n / d ∧ (n / d : ℚ) < 2 ^ ((n.log2 : ℤ) - d.log2 + 1) := by
  have hpos : (0 : ℚ) < d := by positivity
  have hnlow : (2 : ℚ) ^ (n.log2 : ℤ) ≤ n := by exact_mod_cast Nat.log2_self_le hn
  have hdlow : (2 : ℚ) ^ (d.log2 : ℤ) ≤ d := by exact_mod_cast Nat.log2_self_le hd
  have hnhigh : (n : ℚ) < 2 ^ ((n.log2 : ℤ) + 1) := by exact_mod_cast Nat.lt_log2_self
  have hdhigh : (d : ℚ) < 2 ^ ((d.log2 : ℤ) + 1) := by exact_mod_cast Nat.lt_log2_self
  constructor
  · rw [le_div_iff₀ hpos]
    calc (2 : ℚ) ^ ((n.log2 : ℤ) - d.log2 - 1) * d
        ≤ 2 ^ ((n.log2 : ℤ) - d.log2 - 1) * 2 ^ ((d.log2 : ℤ) + 1) := by gcongr
      _ = 2 ^ (n.log2 : ℤ) := by rw [← zpow_add₀ two_ne_zero]; congr 1; ring
      _ ≤ n := hnlow
  · rw [div_lt_iff₀ hpos]
    calc (n : ℚ) < 2 ^ ((n.log2 : ℤ) + 1) := hnhigh
      _ = 2 ^ ((n.log2 : ℤ) - d.log2 + 1) * 2 ^ (d.log2 : ℤ) := by rw [← zpow_add₀ two_ne_zero]; congr 1; ring
      _ ≤ 2 ^ ((n.log2 : ℤ) - d.log2 + 1) * d := by gcongr

theorem zpow_floorLog2_le {a : ℚ} (ha : 0 < a) : (2 : ℚ) ^ floorLog2 a ≤ a ∧ a < 2 ^ (floorLog2 a + 1) := by
  have hnum : (a.num.toNat : ℤ) = a.num := Int.toNat_of_nonneg (Rat.num_pos.mpr ha).le
  have hdiv : (a.num.toNat / a.den : ℚ) = a := by
    rw [← Int.cast_natCast, hnum]
    exact Rat.num_div_den a
  have hnum0 : a.num.toNat ≠ 0 := by
    have := Rat.num_pos.mpr ha
    omega
  obtain ⟨hlow, hhigh⟩ := log2_div_bounds hnum0 a.den_ne_zero
  rw [hdiv] at hlow hhigh
  simp only [floorLog2, pow2Rat_eq]
  split_ifs with hle
  · exact ⟨hle, hhigh⟩
  · exact ⟨hlow, by rwa [sub_add_cancel, ← not_le]⟩

theorem floor_toNat_eq (x : ℚ) : x.floor.toNat = ⌊x⌋₊ := rfl

theorem abs_nearestEven_sub_le_half {x : ℚ} (hx : 0 ≤ x) : |(nearestEven x : ℚ) - x| ≤ 1 / 2 := by
  have hlow := Nat.floor_le hx
  have hhigh := Nat.lt_floor_add_one x
  unfold nearestEven
  rw [floor_toNat_eq]
  dsimp only
  split_ifs with hbelow habove
  · exact abs_le.mpr ⟨by linarith, by linarith⟩
  · exact abs_le.mpr ⟨by push_cast; linarith, by push_cast; linarith⟩
  · have htie : x = ⌊x⌋₊ + 1 / 2 := by linarith
    obtain heven | hodd := Nat.mod_two_eq_zero_or_one ⌊x⌋₊
    · rw [heven]
      exact abs_le.mpr ⟨by push_cast; linarith, by push_cast; linarith⟩
    · rw [hodd]
      exact abs_le.mpr ⟨by push_cast; linarith, by push_cast; linarith⟩

/-- Two integers differ by one at least, so a value within one half of an integer is nearest to it. -/
theorem abs_nearestEven_sub_le {x : ℚ} (hx : 0 ≤ x) (n : ℕ) :
    |(nearestEven x : ℚ) - x| ≤ |(n : ℚ) - x| := by
  have hhalf := abs_nearestEven_sub_le_half hx
  by_cases heq : n = nearestEven x
  · rw [heq]
  · have hone : (1 : ℚ) ≤ |(n : ℚ) - nearestEven x| := by
      have hint : (n : ℤ) - nearestEven x ≠ 0 := by omega
      exact_mod_cast Int.one_le_abs hint
    have htri := abs_sub_le (n : ℚ) x (nearestEven x)
    rw [abs_sub_comm x] at htri
    linarith

theorem nearestEven_natCast (n : ℕ) : nearestEven (n : ℚ) = n := by
  have h := abs_nearestEven_sub_le n.cast_nonneg n
  rw [sub_self, abs_zero] at h
  exact_mod_cast sub_eq_zero.mp (abs_nonpos_iff.mp h)

theorem nearestEven_le {x : ℚ} (hx : 0 ≤ x) {n : ℕ} (h : x ≤ n) : nearestEven x ≤ n := by
  have hnear := abs_nearestEven_sub_le hx n
  rw [abs_of_nonneg (sub_nonneg.mpr h)] at hnear
  have hle := (le_abs_self _).trans hnear
  exact_mod_cast (sub_le_sub_iff_right x).mp hle

theorem le_nearestEven {x : ℚ} {n : ℕ} (h : (n : ℚ) ≤ x) : n ≤ nearestEven x := by
  have hnear := abs_nearestEven_sub_le (n.cast_nonneg.trans h) n
  rw [abs_sub_comm (n : ℚ), abs_of_nonneg (sub_nonneg.mpr h)] at hnear
  have hle := (neg_le_abs _).trans hnear
  exact_mod_cast (by linarith : (n : ℚ) ≤ nearestEven x)

section
variable {k : Kind}

/-! The value of a pattern (R115). -/

/-- The integer that the spacing is multiplied by: the mantissa field, with the leading bit of a normal
pattern. -/
def significand (k : Kind) (x : Pat k) : ℕ :=
  if expField k x = 0 then mantField k x else 2 ^ k.mant + mantField k x

theorem magnitude_eq (x : Pat k) : magnitude k x = significand k x * 2 ^ (getExponent k x - k.mant) := by
  rw [magnitude, significand, getExponent, pow2Rat_eq, pow2Rat_eq, emin_eq]
  split_ifs with hexp
  · rw [hexp, Nat.cast_zero, max_eq_right zero_le_one]
  · rw [max_eq_left (by omega)]

theorem significand_lt (x : Pat k) : significand k x < 2 ^ (k.mant + 1) := by
  have hmant := mantField_lt x
  rw [Nat.pow_succ, significand]
  split_ifs <;> omega

theorem emin_le_getExponent (x : Pat k) : k.emin ≤ getExponent k x := by
  rw [emin_eq, getExponent]
  exact sub_le_sub_right (le_max_right _ _) _

theorem getExponent_le_emax {x : Pat k} (h : isFinite k x = true) : getExponent k x ≤ k.emax := by
  have hne := (isFinite_iff x).mp h
  have hle := expField_le x
  have hall := expAll_eq k
  have hone := one_lt_expAll k
  rw [getExponent]
  omega

theorem magnitude_nonneg (x : Pat k) : 0 ≤ magnitude k x := by
  rw [magnitude_eq]
  exact mul_nonneg (Nat.cast_nonneg _) (two_zpow_pos _).le

theorem abs_val (x : Pat k) : |val k x| = magnitude k x := by
  unfold val
  split_ifs
  · rw [abs_neg, abs_of_nonneg (magnitude_nonneg x)]
  · exact abs_of_nonneg (magnitude_nonneg x)

/-! The pattern of a significand and an exponent. -/

/-- The exponent and the rounded significand of a value: at `EMIN` at least, at most the carry into the next
binade, and with a leading bit above `EMIN` (R116). -/
structure RoundedPair (k : Kind) (e : ℤ) (f : ℕ) : Prop where
  emin_le : k.emin ≤ e
  le_carry : f ≤ 2 ^ (k.mant + 1)
  leading : 2 ^ k.mant ≤ f ∨ e = k.emin

theorem getExponent_ofFields (s : Bool) {e t : ℕ} (he : e ≤ expAll k) (ht : t < 2 ^ k.mant) :
    getExponent k (ofFields k s e t) = max (e : ℤ) 1 - k.bias := by
  rw [getExponent, expField_ofFields s he ht]

theorem significand_ofFields (s : Bool) {e t : ℕ} (he : e ≤ expAll k) (ht : t < 2 ^ k.mant) :
    significand k (ofFields k s e t) = if e = 0 then t else 2 ^ k.mant + t := by
  rw [significand, expField_ofFields s he ht, mantField_ofFields s he ht]

theorem pack_carry (s : Bool) (e : ℤ) : pack k s e (2 ^ (k.mant + 1)) = pack k s (e + 1) (2 ^ k.mant) := by
  have hne : 2 ^ k.mant ≠ 2 ^ (k.mant + 1) := (Nat.pow_lt_pow_succ one_lt_two).ne
  simp only [pack, if_pos, if_neg hne]

theorem pack_overflow (s : Bool) {e : ℤ} {f : ℕ} (hf : f ≠ 2 ^ (k.mant + 1)) (he : k.emax < e) :
    pack k s e f = ofFields k s (expAll k) 0 := by
  have hinf : posInf k = BitVec.ofNat k.width (expAll k <<< k.mant) := by cases k <;> rfl
  simp only [pack, if_neg hf, if_pos he, ofFields, hinf, BitVec.or_zero]

theorem pack_subnormal (s : Bool) {e : ℤ} {f : ℕ} (he : e ≤ k.emax) (hf : f < 2 ^ k.mant) :
    pack k s e f = ofFields k s 0 f := by
  have hne : f ≠ 2 ^ (k.mant + 1) := (hf.trans (Nat.pow_lt_pow_succ one_lt_two)).ne
  simp only [pack, if_neg hne, if_neg (not_lt.mpr he), if_pos hf, ofFields, Nat.zero_shiftLeft,
    BitVec.or_zero]

theorem pack_normal (s : Bool) {e : ℤ} {f : ℕ} (he : e ≤ k.emax) (hlow : 2 ^ k.mant ≤ f)
    (hhigh : f < 2 ^ (k.mant + 1)) : pack k s e f = ofFields k s (e + k.bias).toNat (f - 2 ^ k.mant) := by
  simp only [pack, if_neg hhigh.ne, if_neg (not_lt.mpr he), if_neg (not_lt.mpr hlow), ofFields]

/-- The fields of a packed pattern, when nothing is carried and nothing overflows. -/
theorem pack_parts (s : Bool) {e : ℤ} {f : ℕ} (h : RoundedPair k e f) (hf : f < 2 ^ (k.mant + 1))
    (he : e ≤ k.emax) :
    sign k (pack k s e f) = s ∧ getExponent k (pack k s e f) = e ∧ significand k (pack k s e f) = f := by
  have hemin := emin_eq k
  have hlow := h.emin_le
  have hall := expAll_eq k
  by_cases hlead : f < 2 ^ k.mant
  · have heq : e = k.emin := h.leading.resolve_left (not_le.mpr hlead)
    have hzero := (expAll k).zero_le
    rw [pack_subnormal s he hlead, sign_ofFields s hzero hlead, getExponent_ofFields s hzero hlead,
      significand_ofFields s hzero hlead, if_pos rfl]
    exact ⟨rfl, by omega, rfl⟩
  · have hexp : (e + k.bias).toNat ≤ expAll k := by omega
    have hmant : f - 2 ^ k.mant < 2 ^ k.mant := by
      rw [Nat.pow_succ] at hf
      omega
    rw [pack_normal s he (not_lt.mp hlead) hf, sign_ofFields s hexp hmant, getExponent_ofFields s hexp hmant,
      significand_ofFields s hexp hmant, if_neg (by omega)]
    exact ⟨rfl, by omega, by omega⟩

theorem magnitude_pack (s : Bool) {e : ℤ} {f : ℕ} (h : RoundedPair k e f)
    (hfin : isFinite k (pack k s e f) = true) :
    sign k (pack k s e f) = s ∧ magnitude k (pack k s e f) = f * 2 ^ (e - k.mant) := by
  have hnotInf (e' : ℤ) {f' : ℕ} (hf' : f' ≠ 2 ^ (k.mant + 1)) (h' : isFinite k (pack k s e' f') = true) :
      e' ≤ k.emax := by
    by_contra hlt
    rw [pack_overflow s hf' (not_le.mp hlt), isFinite_iff,
      expField_ofFields s le_rfl (Nat.two_pow_pos _)] at h'
    exact h' rfl
  by_cases hcarry : f = 2 ^ (k.mant + 1)
  · subst hcarry
    have hlt : 2 ^ k.mant < 2 ^ (k.mant + 1) := Nat.pow_lt_pow_succ one_lt_two
    rw [pack_carry] at hfin ⊢
    have hpair : RoundedPair k (e + 1) (2 ^ k.mant) := ⟨h.emin_le.trans (by omega), hlt.le, .inl le_rfl⟩
    obtain ⟨hsign, hexp, hsig⟩ := pack_parts s hpair hlt (hnotInf _ hlt.ne hfin)
    refine ⟨hsign, ?_⟩
    rw [magnitude_eq, hexp, hsig, two_pow_mul_zpow, two_pow_mul_zpow]
    congr 1
    push_cast
    ring
  · obtain ⟨hsign, hexp, hsig⟩ := pack_parts s h (lt_of_le_of_ne h.le_carry hcarry) (hnotInf _ hcarry hfin)
    exact ⟨hsign, by rw [magnitude_eq, hexp, hsig]⟩

/-- Packing the sign, exponent and significand of a finite pattern gives the pattern. -/
theorem pack_self {x : Pat k} (h : isFinite k x = true) :
    pack k (sign k x) (getExponent k x) (significand k x) = x := by
  have hmax := getExponent_le_emax h
  have hmant := mantField_lt x
  have hsig := significand_lt x
  conv_rhs => rw [← ofFields_self x]
  by_cases hexp : expField k x = 0
  · rw [significand, if_pos hexp, pack_subnormal _ hmax hmant, hexp]
  · rw [significand, if_neg hexp] at hsig ⊢
    rw [pack_normal _ hmax (Nat.le_add_right _ _) hsig, Nat.add_sub_cancel_left]
    congr 1
    rw [getExponent]
    omega

/-! Rounding (R116). -/

theorem emin_le_roundExp (k : Kind) (a : ℚ) : k.emin ≤ roundExp k a := le_max_right _ _

theorem lt_zpow_roundExp_succ (k : Kind) {a : ℚ} (ha : 0 < a) : a < 2 ^ (roundExp k a + 1) :=
  (zpow_floorLog2_le ha).2.trans_le
    (zpow_le_zpow_right₀ one_le_two (add_le_add_left (le_max_left _ _) 1))

/-- Above `EMIN` the exponent of rounding is that of the value. -/
theorem zpow_roundExp_le {a : ℚ} (ha : 0 < a) : (2 : ℚ) ^ roundExp k a ≤ a ∨ roundExp k a = k.emin := by
  obtain hle | hle := le_total (floorLog2 a) k.emin
  · exact .inr (max_eq_right hle)
  · rw [roundExp, max_eq_left hle]
    exact .inl (zpow_floorLog2_le ha).1

/-- A positive value in units of the spacing at its exponent. -/
def scaled (k : Kind) (a : ℚ) : ℚ := a / 2 ^ (roundExp k a - k.mant)

theorem scaled_mul (k : Kind) (a : ℚ) : scaled k a * 2 ^ (roundExp k a - k.mant) = a :=
  div_mul_cancel₀ a (two_zpow_pos _).ne'

theorem scaled_nonneg (k : Kind) {a : ℚ} (ha : 0 < a) : 0 ≤ scaled k a :=
  div_nonneg ha.le (two_zpow_pos _).le

theorem roundNearest_eq {v : ℚ} (hv : v ≠ 0) (zs : Bool) :
    roundNearest k v zs = pack k (decide (v < 0)) (roundExp k |v|) (nearestEven (scaled k |v|)) := by
  have habs : (if v < 0 then -v else v) = |v| := by
    split_ifs with hneg
    · exact (abs_of_neg hneg).symm
    · exact (abs_of_nonneg (not_lt.mp hneg)).symm
  simp only [roundNearest, if_neg hv, habs, pow2Rat_eq, scaled]

theorem roundedPair_of_pos (k : Kind) {a : ℚ} (ha : 0 < a) :
    RoundedPair k (roundExp k a) (nearestEven (scaled k a)) := by
  refine ⟨emin_le_roundExp k a, nearestEven_le (scaled_nonneg k ha) ?_, ?_⟩
  · rw [scaled, div_le_iff₀ (two_zpow_pos _), two_pow_mul_zpow]
    refine (lt_zpow_roundExp_succ k ha).le.trans_eq ?_
    congr 1
    push_cast
    ring
  · refine (zpow_roundExp_le ha).imp_left fun hle => le_nearestEven ?_
    rw [scaled, le_div_iff₀ (two_zpow_pos _), two_pow_mul_zpow]
    rwa [add_sub_cancel]

theorem magnitude_lt (x : Pat k) : magnitude k x < 2 ^ (getExponent k x + 1) := by
  rw [magnitude_eq]
  calc (significand k x : ℚ) * 2 ^ (getExponent k x - k.mant)
      < (2 ^ (k.mant + 1) : ℕ) * 2 ^ (getExponent k x - k.mant) :=
        mul_lt_mul_of_pos_right (Nat.cast_lt.mpr (significand_lt x)) (two_zpow_pos _)
    _ = 2 ^ (getExponent k x + 1) := by
        rw [two_pow_mul_zpow]
        congr 1
        push_cast
        ring

/-- Seen from an exponent `e`, a finite magnitude is on the grid of the spacing at `e` or lies below `2^e`. -/
theorem magnitude_on_grid_or_below (x : Pat k) (e : ℤ) :
    (∃ n : ℕ, magnitude k x = n * 2 ^ (e - k.mant)) ∨ (k.emin < e ∧ magnitude k x < 2 ^ e) := by
  obtain hle | hlt := le_or_gt e (getExponent k x)
  · refine .inl ⟨significand k x * 2 ^ (getExponent k x - e).toNat, ?_⟩
    rw [magnitude_eq, Nat.cast_mul, mul_assoc, two_pow_mul_zpow, Int.toNat_of_nonneg (sub_nonneg.mpr hle)]
    congr 2
    ring
  · exact .inr ⟨(emin_le_getExponent x).trans_lt hlt,
      (magnitude_lt x).trans_le (zpow_le_zpow_right₀ one_le_two hlt)⟩

/-- No finite magnitude is closer to a positive value than the rounded one: on the grid the nearest integer
wins, and what is off the grid lies below a point of the grid that lies below the value. -/
theorem rounded_magnitude_nearest (x : Pat k) {a : ℚ} (ha : 0 < a) :
    |(nearestEven (scaled k a) : ℚ) * 2 ^ (roundExp k a - k.mant) - a| ≤ |magnitude k x - a| := by
  have hgrid (n : ℕ) : |(nearestEven (scaled k a) : ℚ) * 2 ^ (roundExp k a - k.mant) - a| ≤
      |(n : ℚ) * 2 ^ (roundExp k a - k.mant) - a| := by
    have hdist (m : ℕ) : |(m : ℚ) * 2 ^ (roundExp k a - k.mant) - a| =
        |(m : ℚ) - scaled k a| * 2 ^ (roundExp k a - k.mant) := by
      rw [← abs_of_pos (two_zpow_pos (roundExp k a - k.mant)), ← abs_mul, sub_mul,
        abs_of_pos (two_zpow_pos _), scaled_mul]
    rw [hdist, hdist]
    exact mul_le_mul_of_nonneg_right (abs_nearestEven_sub_le (scaled_nonneg k ha) n) (two_zpow_pos _).le
  obtain ⟨n, hn⟩ | ⟨hemin, hbelow⟩ := magnitude_on_grid_or_below x (roundExp k a)
  · rw [hn]
    exact hgrid n
  · have hle := (zpow_roundExp_le ha).resolve_right hemin.ne'
    have hbinade := hgrid (2 ^ k.mant)
    rw [two_pow_mul_zpow, add_sub_cancel, abs_of_nonpos (sub_nonpos.mpr hle)] at hbinade
    rw [abs_of_nonpos (a := magnitude k x - a) (by linarith)]
    linarith

/-- The value of a finite pattern with the sign of `v` is as far from `v` as their magnitudes are. -/
theorem abs_val_sub_of_sign {x : Pat k} {v : ℚ} (h : sign k x = decide (v < 0)) :
    |val k x - v| = |magnitude k x - (|v|)| := by
  by_cases hneg : v < 0
  · rw [val, h, decide_eq_true hneg, if_pos rfl, abs_of_neg hneg, ← abs_neg]
    congr 1
    ring
  · rw [val, h, decide_eq_false hneg, if_neg Bool.false_ne_true, abs_of_nonneg (not_lt.mp hneg)]

theorem signBit_eq_ofFields (k : Kind) (s : Bool) : signBit k s = ofFields k s 0 0 := by
  rw [ofFields, Nat.zero_shiftLeft, BitVec.or_zero, BitVec.or_zero]

theorem val_signBit (k : Kind) (s : Bool) : val k (signBit k s) = 0 := by
  have hsig : significand k (signBit k s) = 0 := by
    rw [signBit_eq_ofFields, significand_ofFields s (Nat.zero_le _) (Nat.two_pow_pos _), if_pos rfl]
  rw [← abs_eq_zero, abs_val, magnitude_eq, hsig, Nat.cast_zero, zero_mul]

/-- The exponent of rounding is the one whose binade the value lies in, or `EMIN` below. -/
theorem roundExp_unique {a : ℚ} {e : ℤ} (ha : 0 < a) (hemin : k.emin ≤ e) (hhigh : a < 2 ^ (e + 1))
    (hlow : (2 : ℚ) ^ e ≤ a ∨ e = k.emin) : roundExp k a = e := by
  obtain ⟨hfloor, hsucc⟩ := zpow_floorLog2_le ha
  have hle : floorLog2 a < e + 1 := (zpow_lt_zpow_iff_right₀ one_lt_two).mp (hfloor.trans_lt hhigh)
  rw [roundExp]
  obtain hbinade | heq := hlow
  · have hge : e < floorLog2 a + 1 := (zpow_lt_zpow_iff_right₀ one_lt_two).mp (hbinade.trans_lt hsucc)
    omega
  · omega

theorem leading_significand (x : Pat k) : 2 ^ k.mant ≤ significand k x ∨ getExponent k x = k.emin := by
  rw [significand, getExponent, emin_eq]
  split_ifs with hexp
  · exact .inr (by omega)
  · exact .inl (Nat.le_add_right _ _)

theorem significand_eq_zero_iff (x : Pat k) :
    significand k x = 0 ↔ expField k x = 0 ∧ mantField k x = 0 := by
  have hpos := Nat.two_pow_pos k.mant
  rw [significand]
  split_ifs <;> omega

theorem magnitude_pos {x : Pat k} (h : isNumber k x = true) : 0 < magnitude k x := by
  have hne : significand k x ≠ 0 := fun h0 =>
    ((isNumber_iff x).mp h).1 ((significand_eq_zero_iff x).mp h0)
  rw [magnitude_eq]
  exact mul_pos (Nat.cast_pos.mpr (Nat.pos_of_ne_zero hne)) (two_zpow_pos _)

/-- The magnitude of a number is rounded at the number's own exponent. -/
theorem roundExp_magnitude {x : Pat k} (h : isNumber k x = true) :
    roundExp k (magnitude k x) = getExponent k x := by
  refine roundExp_unique (magnitude_pos h) (emin_le_getExponent x) (magnitude_lt x) ?_
  refine (leading_significand x).imp_left fun hle => ?_
  calc (2 : ℚ) ^ getExponent k x = (2 ^ k.mant : ℕ) * 2 ^ (getExponent k x - k.mant) := by
        rw [two_pow_mul_zpow, add_sub_cancel]
    _ ≤ magnitude k x := by
        rw [magnitude_eq]
        exact mul_le_mul_of_nonneg_right (Nat.cast_le.mpr hle) (two_zpow_pos _).le

theorem scaled_magnitude {x : Pat k} (h : isNumber k x = true) : scaled k (magnitude k x) = significand k x := by
  rw [scaled, roundExp_magnitude h, magnitude_eq, mul_div_cancel_right₀ _ (two_zpow_pos _).ne']

theorem val_neg_iff {x : Pat k} (h : isNumber k x = true) : val k x < 0 ↔ sign k x = true := by
  have hpos := magnitude_pos h
  unfold val
  split_ifs with hsign
  · exact iff_of_true (neg_neg_of_pos hpos) hsign
  · exact iff_of_false hpos.not_gt hsign

/-! A power of two (R118). -/

theorem pow2_normal {n : ℤ} (h : k.emin ≤ n) : pow2 k n = ofFields k false (n + k.bias).toNat 0 := by
  rw [pow2, if_pos h, ofFields, BitVec.or_zero, signBit, if_neg Bool.false_ne_true, BitVec.zero_or]

theorem pow2_subnormal {n : ℤ} (h : n < k.emin) :
    pow2 k n = ofFields k false 0 (2 ^ (n - (k.emin - k.mant)).toNat) := by
  rw [pow2, if_neg (not_le.mpr h), ofFields, Nat.zero_shiftLeft, BitVec.or_zero, signBit,
    if_neg Bool.false_ne_true, BitVec.zero_or, Nat.one_shiftLeft]

/-- The value of a pattern with a clear sign bit, from its fields. -/
theorem val_ofFields_false {e t : ℕ} (he : e ≤ expAll k) (ht : t < 2 ^ k.mant) :
    val k (ofFields k false e t) =
      (if e = 0 then t else 2 ^ k.mant + t : ℕ) * 2 ^ (max (e : ℤ) 1 - k.bias - k.mant) := by
  rw [val, sign_ofFields false he ht, if_neg Bool.false_ne_true, magnitude_eq, significand_ofFields false he ht,
    getExponent_ofFields false he ht]

theorem isNumber_ofFields_iff (s : Bool) {e t : ℕ} (he : e ≤ expAll k) (ht : t < 2 ^ k.mant) :
    isNumber k (ofFields k s e t) = true ↔ ¬(e = 0 ∧ t = 0) ∧ e ≠ expAll k := by
  rw [isNumber_iff, expField_ofFields s he ht, mantField_ofFields s he ht]

end

/-- Settles O53: the fields of the two formulas. -/
theorem powersOfTwo : Obligations.PowersOfTwo := by
  intro k n hmin hmax
  have hemin := emin_eq k
  have hall := expAll_eq k
  have hone := one_lt_expAll k
  have hpos := Nat.two_pow_pos k.mant
  obtain hnormal | hsub := le_or_gt k.emin n
  · have hexp : (n + k.bias).toNat ≤ expAll k := by omega
    rw [pow2_normal hnormal, isNumber_ofFields_iff false hexp hpos, val_ofFields_false hexp hpos,
      ofFields_toNat false hexp hpos]
    refine ⟨by omega, ?_, fun _ => by simp, fun h => absurd h hnormal.not_gt⟩
    rw [if_neg (by omega), Nat.add_zero, two_pow_mul_zpow]
    congr 1
    omega
  · have hexp := (expAll k).zero_le
    have hmant : 2 ^ (n - (k.emin - k.mant)).toNat < 2 ^ k.mant :=
      Nat.pow_lt_pow_right one_lt_two (by omega)
    rw [pow2_subnormal hsub, isNumber_ofFields_iff false hexp hmant, val_ofFields_false hexp hmant,
      ofFields_toNat false hexp hmant]
    refine ⟨⟨fun h => (Nat.two_pow_pos _).ne' h.2, by omega⟩, ?_, fun h => absurd h hsub.not_ge,
      fun _ => by simp⟩
    rw [if_pos rfl, two_pow_mul_zpow]
    congr 1
    omega

/-- Settles O51: in magnitude no finite pattern is closer, and a pattern's sign cannot bring it closer than
its magnitude is. -/
theorem roundingIsNearest : Obligations.RoundingIsNearest := by
  intro k v zs hfin x _
  by_cases hv : v = 0
  · rw [roundNearest, if_pos hv, val_signBit, hv, sub_zero, abs_zero]
    exact abs_nonneg _
  · have hpos : 0 < |v| := abs_pos.mpr hv
    rw [roundNearest_eq hv] at hfin ⊢
    obtain ⟨hsign, hmag⟩ := magnitude_pack _ (roundedPair_of_pos k hpos) hfin
    rw [abs_val_sub_of_sign hsign, hmag]
    calc _ ≤ |magnitude k x - (|v|)| := rounded_magnitude_nearest x hpos
      _ = |(|val k x|) - (|v|)| := by rw [abs_val]
      _ ≤ |val k x - v| := abs_abs_sub_abs_le_abs_sub _ _

/-- Settles O52: a number's value is its integer significand at its own exponent, which no rounding changes. -/
theorem roundingARepresentableValue : Obligations.RoundingARepresentableValue := by
  intro k x zs h
  have hne : val k x ≠ 0 := by
    rw [← abs_pos, abs_val]
    exact magnitude_pos h
  have hsign : decide (val k x < 0) = sign k x := by
    rw [Bool.eq_iff_iff, decide_eq_true_iff]
    exact val_neg_iff h
  rw [roundNearest_eq hne, abs_val, hsign, roundExp_magnitude h, scaled_magnitude h, nearestEven_natCast]
  exact pack_self (isFinite_of_isNumber h)

end Sys2Proof.Machine
end

section
/-! The NaN results: O54 (spec/40_format_primitives.md R119 to R127). Rounding never gives a NaN and an operand
is returned only where it is none, so every NaN result is the one the operation writes down. -/

namespace Sys2Proof.Machine

section
variable {k : Kind}

/-- `x` is no NaN but the canonical one. -/
def NanIsCanonical (k : Kind) (x : Pat k) : Prop := isNan k x = true → x = canonNan k

theorem nanIsCanonical_canonNan : NanIsCanonical k (canonNan k) := fun _ => rfl

theorem nanIsCanonical_of_not_nan {x : Pat k} (h : isNan k x = false) : NanIsCanonical k x := fun hnan =>
  absurd (h.symm.trans hnan) Bool.false_ne_true

/-! What is no NaN. -/

theorem isNan_eq_false_of_isInf {x : Pat k} (h : isInf k x = true) : isNan k x = false := by
  rw [← Bool.not_eq_true, isNan_iff]
  exact fun hnan => hnan.2 ((isInf_iff x).mp h).2

theorem isNan_eq_false_of_isFinite {x : Pat k} (h : isFinite k x = true) : isNan k x = false := by
  rw [← Bool.not_eq_true, isNan_iff]
  exact fun hnan => (isFinite_iff x).mp h hnan.1

theorem isFinite_of_isZero {x : Pat k} (h : isZero k x = true) : isFinite k x = true := by
  rw [isFinite, h, Bool.true_or, Bool.true_or]

theorem isInf_infinity (k : Kind) (s : Bool) : isInf k (infinity k s) = true := by
  cases k <;> cases s <;> rfl

theorem isInf_posInf (k : Kind) : isInf k (posInf k) = true := by cases k <;> rfl

theorem isZero_signBit (k : Kind) (s : Bool) : isZero k (signBit k s) = true := by
  cases k <;> cases s <;> rfl

theorem isNan_ofFields (s : Bool) {e t : ℕ} (he : e ≤ expAll k) (ht : t < 2 ^ k.mant)
    (h : e ≠ expAll k ∨ t = 0) : isNan k (ofFields k s e t) = false := by
  rw [← Bool.not_eq_true, isNan_iff, expField_ofFields s he ht, mantField_ofFields s he ht]
  exact fun hnan => h.elim (· hnan.1) hnan.2

theorem isNan_pack_of_lt (s : Bool) (e : ℤ) {f : ℕ} (hf : f < 2 ^ (k.mant + 1)) :
    isNan k (pack k s e f) = false := by
  have hone := one_lt_expAll k
  obtain hover | hmax := lt_or_ge k.emax e
  · rw [pack_overflow s hf.ne hover]
    exact isNan_ofFields s le_rfl (Nat.two_pow_pos _) (.inr rfl)
  obtain hsub | hnormal := lt_or_ge f (2 ^ k.mant)
  · rw [pack_subnormal s hmax hsub]
    exact isNan_ofFields s (Nat.zero_le _) hsub (.inl (by omega))
  · have hall := expAll_eq k
    rw [pack_normal s hmax hnormal hf]
    rw [Nat.pow_succ] at hf
    exact isNan_ofFields s (by omega) (by omega) (.inl (by omega))

/-- A rounded significand, the carry included, gives no NaN. -/
theorem isNan_pack (s : Bool) (e : ℤ) {f : ℕ} (hf : f ≤ 2 ^ (k.mant + 1)) : isNan k (pack k s e f) = false := by
  obtain hlt | rfl := hf.lt_or_eq
  · exact isNan_pack_of_lt s e hlt
  · rw [pack_carry]
    exact isNan_pack_of_lt s (e + 1) (Nat.pow_lt_pow_succ one_lt_two)

theorem isNan_roundNearest (k : Kind) (v : ℚ) (zs : Bool) : isNan k (roundNearest k v zs) = false := by
  by_cases hv : v = 0
  · rw [roundNearest, if_pos hv]
    exact isNan_eq_false_of_isFinite (isFinite_of_isZero (isZero_signBit k zs))
  · rw [roundNearest_eq hv]
    exact isNan_pack _ _ (roundedPair_of_pos k (abs_pos.mpr hv)).le_carry

/-! The rounded square root (R124). -/

theorem isqrtBits_mul_self_le (b n r : ℕ) (h : r * r ≤ n) : isqrtBits b n r * isqrtBits b n r ≤ n := by
  induction b generalizing r with
  | zero => exact h
  | succ b ih =>
    rw [isqrtBits]
    split_ifs with hfits
    · exact ih _ hfits
    · exact ih _ h

theorem isqrt_mul_self_le (n : ℕ) : isqrt n * isqrt n ≤ n := isqrtBits_mul_self_le _ n 0 (Nat.zero_le n)

theorem nearestSqrt_le {x : ℚ} (hx : 0 ≤ x) {n : ℕ} (h : x < (n * n : ℕ)) : nearestSqrt x ≤ n := by
  have hroot : isqrt ⌊x⌋₊ < n := by
    have hsq : isqrt ⌊x⌋₊ * isqrt ⌊x⌋₊ < n * n :=
      (isqrt_mul_self_le _).trans_lt ((Nat.floor_lt hx).mpr h)
    exact Nat.mul_self_lt_mul_self_iff.mp hsq
  unfold nearestSqrt
  rw [floor_toNat_eq]
  dsimp only
  split_ifs <;> omega

theorem isNan_roundSqrt {a : ℚ} (ha : 0 < a) : isNan k (roundSqrt k a) = false := by
  refine isNan_pack _ _ (nearestSqrt_le ?_ ?_)
  · rw [pow2Rat_eq]
    exact div_nonneg ha.le (two_zpow_pos _).le
  · rw [pow2Rat_eq, div_lt_iff₀ (two_zpow_pos _), ← Nat.pow_add, two_pow_mul_zpow]
    exact (zpow_floorLog2_le ha).2.trans_le (zpow_le_zpow_right₀ one_le_two (by push_cast; omega))

/-- A pattern that is no NaN, no zero and not negative has a positive value, unless it is infinite. -/
theorem val_pos {x : Pat k} (hnan : ¬isNan k x = true) (hzero : ¬isZero k x = true) (hsign : ¬sign k x = true)
    (hinf : ¬isInf k x = true) : 0 < val k x := by
  have hnumber : isNumber k x = true := by
    rw [isNan_iff] at hnan
    rw [isZero_iff] at hzero
    rw [isInf_iff] at hinf
    rw [isNumber_iff]
    omega
  rw [val, if_neg hsign]
  exact magnitude_pos hnumber

/-! The base operations (R120 to R125). -/

theorem nanIsCanonical_of_isInf {x : Pat k} (h : isInf k x = true) : NanIsCanonical k x :=
  nanIsCanonical_of_not_nan (isNan_eq_false_of_isInf h)

theorem nanIsCanonical_infinity (s : Bool) : NanIsCanonical k (infinity k s) :=
  nanIsCanonical_of_isInf (isInf_infinity k s)

theorem nanIsCanonical_of_isZero {x : Pat k} (h : isZero k x = true) : NanIsCanonical k x :=
  nanIsCanonical_of_not_nan (isNan_eq_false_of_isFinite (isFinite_of_isZero h))

theorem nanIsCanonical_roundNearest (v : ℚ) (zs : Bool) : NanIsCanonical k (roundNearest k v zs) :=
  nanIsCanonical_of_not_nan (isNan_roundNearest k v zs)

theorem nanIsCanonical_fadd (a b : Pat k) : NanIsCanonical k (fadd k a b) := by
  unfold fadd
  split_ifs with hnan hinfs hsign hinfa hinfb
  · exact nanIsCanonical_canonNan
  · exact nanIsCanonical_of_isInf (Bool.and_eq_true_iff.mp hinfs).1
  · exact nanIsCanonical_canonNan
  · exact nanIsCanonical_of_isInf hinfa
  · exact nanIsCanonical_of_isInf hinfb
  · exact nanIsCanonical_roundNearest _ _

theorem nanIsCanonical_fmul (a b : Pat k) : NanIsCanonical k (fmul k a b) := by
  unfold fmul
  dsimp only
  split_ifs with hnan hinfZero hinf
  · exact nanIsCanonical_canonNan
  · exact nanIsCanonical_canonNan
  · exact nanIsCanonical_infinity _
  · exact nanIsCanonical_roundNearest _ _

theorem nanIsCanonical_fdiv (a b : Pat k) : NanIsCanonical k (fdiv k a b) := by
  unfold fdiv
  dsimp only
  split_ifs with hnan hinfs hinfa hinfb hzerob hzeroa
  · exact nanIsCanonical_canonNan
  · exact nanIsCanonical_canonNan
  · exact nanIsCanonical_infinity _
  · exact nanIsCanonical_of_isZero (isZero_signBit k _)
  · exact nanIsCanonical_canonNan
  · exact nanIsCanonical_infinity _
  · exact nanIsCanonical_roundNearest _ _

theorem nanIsCanonical_fsqrt (a : Pat k) : NanIsCanonical k (fsqrt k a) := by
  unfold fsqrt
  split_ifs with hnan hzero hsign hinf
  · exact nanIsCanonical_canonNan
  · exact nanIsCanonical_of_isZero hzero
  · exact nanIsCanonical_canonNan
  · exact nanIsCanonical_of_isInf (isInf_posInf k)
  · exact nanIsCanonical_of_not_nan (isNan_roundSqrt (val_pos hnan hzero hsign hinf))

theorem nanIsCanonical_ffma (a b c : Pat k) : NanIsCanonical k (ffma k a b c) := by
  unfold ffma
  dsimp only
  split_ifs with hnan hinf hzero hopposite hinfc
  · exact nanIsCanonical_canonNan
  · exact nanIsCanonical_canonNan
  · exact nanIsCanonical_canonNan
  · exact nanIsCanonical_infinity _
  · exact nanIsCanonical_of_isInf hinfc
  · exact nanIsCanonical_roundNearest _ _

end

/-- Settles O54: subtraction is addition of the negated operand (R121), the others go by their branches. -/
theorem nanResultsAreCanonical : Obligations.NanResultsAreCanonical := fun _ a b c =>
  ⟨nanIsCanonical_fadd a b, nanIsCanonical_fadd a (fneg _ b), nanIsCanonical_fmul a b, nanIsCanonical_fdiv a b,
    nanIsCanonical_fsqrt a, nanIsCanonical_ffma a b c⟩

end Sys2Proof.Machine
end

section
/-! Lanes of a register overwritten from lane 0 on, and the error-free transforms as commands: O19, O20
(spec/10_state.md R21, R22; spec/41_eft.md R144, R145). -/

namespace Sys2Proof.Machine

/-! A lane register overwritten from lane 0 on. -/

/-- Register `r` with its lanes below `n` replaced by those of `f` (R22, R221). -/
def overwriteLanes (n : Nat) (f : Fin 16 → Word) (r : LaneReg) : LaneReg :=
  Vector.ofFn fun j => if j.val < n then f j else r[j]

theorem overwriteLanes_getElem (n : Nat) (f : Fin 16 → Word) (r : LaneReg) (j : Fin 16) :
    (overwriteLanes n f r)[j] = if j.val < n then f j else r[j] := by
  simp [overwriteLanes]

theorem overwriteLanes_zero (f : Fin 16 → Word) (r : LaneReg) : overwriteLanes 0 f r = r := by
  ext i hi
  simp [overwriteLanes]

/-- Writing lane `n` after the lanes below it gives one lane more. -/
theorem overwriteLanes_succ {n : Nat} (hn : n < 16) (f : Fin 16 → Word) (r : LaneReg) :
    (overwriteLanes n f r).set (lane n) (f (lane n)) = overwriteLanes (n + 1) f r := by
  have hlanes (j : Fin 16) :
      ((overwriteLanes n f r).set (lane n) (f (lane n)))[j] = (overwriteLanes (n + 1) f r)[j] := by
    rw [getElem_set_fin, overwriteLanes_getElem, overwriteLanes_getElem]
    obtain rfl | hne := eq_or_ne j (lane n)
    · rw [if_pos rfl, if_pos (by rw [lane_val]; omega)]
    · have hval : j.val ≠ n := fun heq => hne (by rw [← heq, lane_of_lt])
      rw [if_neg hne]
      exact ite_congr (by rw [eq_iff_iff]; omega) (fun _ => rfl) fun _ => rfl
  exact Vector.ext fun i hi => hlanes ⟨i, hi⟩

/-! The lanes of an error-free transform. -/

/-- The state in which the lanes below `n` of `RES` and `RESX` hold the pairs `p` (R144, R145). -/
def pairsWritten (k : Kind) (n : Nat) (p : Fin 16 → ErrorPair k) (s : State) : State :=
  { s with
    res := overwriteLanes n (fun j => (p j).sigma.setWidth 64) s.res
    resx := overwriteLanes n (fun j => (p j).tau.setWidth 64) s.resx }

theorem pairsWritten_zero (k : Kind) (p : Fin 16 → ErrorPair k) (s : State) : pairsWritten k 0 p s = s := by
  rw [pairsWritten, overwriteLanes_zero, overwriteLanes_zero]

theorem setPair_pairsWritten {k : Kind} {n : Nat} (hn : n < 16) (p : Fin 16 → ErrorPair k) (s : State) :
    setPair k n (p (lane n)) (pairsWritten k n p s) = pairsWritten k (n + 1) p s := by
  rw [pairsWritten, pairsWritten, ← overwriteLanes_succ hn, ← overwriteLanes_succ hn]
  rfl

/-- The pair that the transform `f` gives on lane `j` of `OPA` and `OPB` (R144, R145). -/
def lanePair (k : Kind) (f : Pat k → Pat k → ErrorPair k) (s : State) (j : Fin 16) : ErrorPair k :=
  f (laneOf k s.opa[j]) (laneOf k s.opb[j])

/-- Lanes are independent: each reads its own lane of the operands, which no lane writes (R21, R221). -/
theorem forLanes_setPair {k : Kind} (f : Pat k → Pat k → ErrorPair k) {n : Nat} (hn : n ≤ 16) (s : State) :
    forLanes n (fun i t => setPair k i (f (operandA k i t) (operandB k i t)) t) s =
      pairsWritten k n (lanePair k f s) s := by
  induction n with
  | zero => exact (pairsWritten_zero k _ s).symm
  | succ n ih =>
    rw [forLanes_succ, ih (by omega)]
    exact setPair_pairsWritten (by omega) (lanePair k f s) s

/-- A legal component command has at most 16 lanes (R81, R86). -/
theorem prim_lanes_le {i : Instr} {k : Kind} {lw : Nat} {op : PrimOp} (hform : i.form = .prim k lw op) :
    2 ^ lw ≤ 16 := by
  have hwf := instr_wellFormed i
  rw [Instr.wellFormed, hform] at hwf
  exact Nat.pow_le_pow_right two_pos (of_decide_eq_true hwf : lw ≤ 4)

/-- Settles O19: the lanes of `twosum`, in closed form. -/
theorem twosumResult : Obligations.TwosumResult := by
  intro i k lw s hform
  rw [exec_eq_effect, hform]
  exact congrArg (fun t => Host.Outcome.next (respond .ok t)) (forLanes_setPair (twosum k) (prim_lanes_le hform) s)

/-- Settles O20: the lanes of `twoprod`, in closed form. -/
theorem twoprodResult : Obligations.TwoprodResult := by
  intro i k lw s hform
  rw [exec_eq_effect, hform]
  exact congrArg (fun t => Host.Outcome.next (respond .ok t)) (forLanes_setPair (twoprod k) (prim_lanes_le hform) s)

end Sys2Proof.Machine
end

section
/-! `twosum` and the order of its operands: O55 (spec/40_format_primitives.md R114, R115, R120, R121;
spec/41_eft.md R140, R141). The swap leaves only operands of equal magnitude to look at: equal ones, and a
finite pattern with its negation, whose sum is an exact zero in either order. -/

namespace Sys2Proof.Machine

section
variable {k : Kind}

/-! Negation and absolute value touch the sign bit only (R114). -/

theorem signMask_and_expMask (k : Kind) : signMask k &&& expMask k = 0#k.width := by cases k <;> rfl

theorem signMask_and_mantMask (k : Kind) : signMask k &&& mantMask k = 0#k.width := by cases k <;> rfl

theorem expMask_clears_sign (k : Kind) : ~~~signMask k &&& expMask k = expMask k := by cases k <;> rfl

theorem mantMask_clears_sign (k : Kind) : ~~~signMask k &&& mantMask k = mantMask k := by cases k <;> rfl

/-- A mask that leaves the sign bit out does not see the sign bit change. -/
theorem fneg_and_of_disjoint {m : Pat k} (h : signMask k &&& m = 0#k.width) (x : Pat k) :
    fneg k x &&& m = x &&& m := by
  have hdistrib : (x ^^^ signMask k) &&& m = (x &&& m) ^^^ (signMask k &&& m) := by
    ext i hi
    simp [Bool.and_xor_distrib_right]
  rw [fneg, hdistrib, h, BitVec.xor_zero]

@[simp] theorem expField_fneg (x : Pat k) : expField k (fneg k x) = expField k x := by
  rw [expField, expField, fneg_and_of_disjoint (signMask_and_expMask k)]

@[simp] theorem mantField_fneg (x : Pat k) : mantField k (fneg k x) = mantField k x := by
  rw [mantField, mantField, fneg_and_of_disjoint (signMask_and_mantMask k)]

@[simp] theorem sign_fneg (x : Pat k) : sign k (fneg k x) = !sign k x := by
  have hmask : (signMask k).msb = true := by cases k <;> rfl
  rw [sign, sign, fneg, BitVec.msb_xor, hmask, Bool.xor_true]

@[simp] theorem fneg_fneg (x : Pat k) : fneg k (fneg k x) = x := by
  rw [fneg, fneg, BitVec.xor_assoc, BitVec.xor_self, BitVec.xor_zero]

@[simp] theorem expField_fabs (x : Pat k) : expField k (fabs k x) = expField k x := by
  rw [expField, expField, fabs, BitVec.and_assoc, expMask_clears_sign]

@[simp] theorem mantField_fabs (x : Pat k) : mantField k (fabs k x) = mantField k x := by
  rw [mantField, mantField, fabs, BitVec.and_assoc, mantMask_clears_sign]

@[simp] theorem sign_fabs (x : Pat k) : sign k (fabs k x) = false := by
  have hmask : (~~~signMask k).msb = false := by cases k <;> rfl
  rw [sign, fabs, BitVec.msb_and, hmask, Bool.and_false]

/-! Their classes and values (R112, R115). -/

@[simp] theorem isZero_fneg (x : Pat k) : isZero k (fneg k x) = isZero k x := by
  rw [isZero, isZero, expField_fneg, mantField_fneg]

@[simp] theorem isNumber_fneg (x : Pat k) : isNumber k (fneg k x) = isNumber k x := by
  rw [Bool.eq_iff_iff, isNumber_iff, isNumber_iff, expField_fneg, mantField_fneg]

@[simp] theorem isFinite_fneg (x : Pat k) : isFinite k (fneg k x) = isFinite k x := by
  rw [Bool.eq_iff_iff, isFinite_iff, isFinite_iff, expField_fneg]

@[simp] theorem isFinite_fabs (x : Pat k) : isFinite k (fabs k x) = isFinite k x := by
  rw [Bool.eq_iff_iff, isFinite_iff, isFinite_iff, expField_fabs]

@[simp] theorem magnitude_fneg (x : Pat k) : magnitude k (fneg k x) = magnitude k x := by
  rw [magnitude, magnitude, expField_fneg, mantField_fneg]

@[simp] theorem val_fneg (x : Pat k) : val k (fneg k x) = -val k x := by
  rw [val, val, sign_fneg, magnitude_fneg]
  cases sign k x
  · rfl
  · exact (neg_neg _).symm

@[simp] theorem val_fabs (x : Pat k) : val k (fabs k x) = magnitude k x := by
  rw [val, sign_fabs, if_neg Bool.false_ne_true, magnitude, magnitude, expField_fabs, mantField_fabs]

/-! Zeros (R112). -/

theorem isInf_eq_false_of_isFinite {x : Pat k} (h : isFinite k x = true) : isInf k x = false := by
  rw [← Bool.not_eq_true, isInf_iff]
  exact fun hinf => (isFinite_iff x).mp h hinf.1

theorem isZero_or_isNumber {x : Pat k} (h : isFinite k x = true) : isZero k x = true ∨ isNumber k x = true := by
  rwa [isFinite, Bool.or_assoc, ← isNumber_eq, Bool.or_eq_true] at h

theorem isZero_eq_false_of_isNumber {x : Pat k} (h : isNumber k x = true) : isZero k x = false := by
  rw [← Bool.not_eq_true, isZero_iff]
  exact ((isNumber_iff x).mp h).1

/-- A zero is its sign bit. -/
theorem eq_signBit_of_isZero {x : Pat k} (h : isZero k x = true) : x = signBit k (sign k x) := by
  obtain ⟨hexp, hmant⟩ := (isZero_iff x).mp h
  conv_lhs => rw [← ofFields_self x, hexp, hmant]
  exact (signBit_eq_ofFields k _).symm

theorem posZero_eq_signBit (k : Kind) : posZero k = signBit k false := by cases k <;> rfl

theorem isZero_posZero (k : Kind) : isZero k (posZero k) = true := by cases k <;> rfl

theorem sign_posZero (k : Kind) : sign k (posZero k) = false := by cases k <;> rfl

theorem val_of_isZero {x : Pat k} (h : isZero k x = true) : val k x = 0 := by
  rw [eq_signBit_of_isZero h, val_signBit]

/-! Finite patterns of equal magnitude. -/

/-- A number is given by its sign and its magnitude: the magnitude has one exponent and one significand. -/
theorem eq_of_sign_of_magnitude {x y : Pat k} (hx : isNumber k x = true) (hy : isNumber k y = true)
    (hsign : sign k x = sign k y) (hmag : magnitude k x = magnitude k y) : x = y := by
  have hexp : getExponent k x = getExponent k y := by
    rw [← roundExp_magnitude hx, hmag, roundExp_magnitude hy]
  have hsig : significand k x = significand k y := by
    have hcast : (significand k x : ℚ) = significand k y := by
      rw [← scaled_magnitude hx, hmag, scaled_magnitude hy]
    exact_mod_cast hcast
  rw [← pack_self (isFinite_of_isNumber hx), hsign, hexp, hsig, pack_self (isFinite_of_isNumber hy)]

theorem isZero_iff_magnitude {x : Pat k} (h : isFinite k x = true) : isZero k x = true ↔ magnitude k x = 0 := by
  constructor
  · intro hzero
    rw [← abs_val, val_of_isZero hzero, abs_zero]
  · intro hmag
    exact (isZero_or_isNumber h).resolve_right fun hnumber => (magnitude_pos hnumber).ne' hmag

/-- The same for every finite pattern, the zeros included. -/
theorem eq_of_sign_of_magnitude_of_isFinite {x y : Pat k} (hx : isFinite k x = true)
    (hy : isFinite k y = true) (hsign : sign k x = sign k y) (hmag : magnitude k x = magnitude k y) :
    x = y := by
  have hzero : isZero k x = true ↔ isZero k y = true := by
    rw [isZero_iff_magnitude hx, isZero_iff_magnitude hy, hmag]
  obtain hzx | hnx := isZero_or_isNumber hx
  · rw [eq_signBit_of_isZero hzx, eq_signBit_of_isZero (hzero.mp hzx), hsign]
  · have hny : isNumber k y = true := (isZero_or_isNumber hy).resolve_left fun hzy =>
      absurd (hzero.mpr hzy) (by rw [isZero_eq_false_of_isNumber hnx]; exact Bool.false_ne_true)
    exact eq_of_sign_of_magnitude hnx hny hsign hmag

/-- Finite patterns of equal magnitude are equal or differ in sign. -/
theorem eq_or_eq_fneg_of_magnitude {x y : Pat k} (hx : isFinite k x = true) (hy : isFinite k y = true)
    (hmag : magnitude k x = magnitude k y) : x = y ∨ x = fneg k y := by
  obtain hsign | hsign := Bool.eq_or_eq_not (sign k x) (sign k y)
  · exact .inl (eq_of_sign_of_magnitude_of_isFinite hx hy hsign hmag)
  · refine .inr (eq_of_sign_of_magnitude_of_isFinite hx ?_ ?_ ?_)
    · rwa [isFinite_fneg]
    · rwa [sign_fneg]
    · rwa [magnitude_fneg]

/-! Finite sums (R120, R121). -/

theorem fadd_of_isFinite {a b : Pat k} (ha : isFinite k a = true) (hb : isFinite k b = true) :
    fadd k a b = roundNearest k (val k a + val k b) (zeroSumSign k a b) := by
  simp [fadd, isNan_eq_false_of_isFinite ha, isNan_eq_false_of_isFinite hb, isInf_eq_false_of_isFinite ha,
    isInf_eq_false_of_isFinite hb]

/-- Two zeros add up to `-0` only when both are `-0`. -/
theorem fadd_of_isZero {a b : Pat k} (ha : isZero k a = true) (hb : isZero k b = true) :
    fadd k a b = signBit k (sign k a && sign k b) := by
  rw [fadd_of_isFinite (isFinite_of_isZero ha) (isFinite_of_isZero hb), val_of_isZero ha, val_of_isZero hb,
    add_zero, roundNearest, if_pos rfl, zeroSumSign, ha, hb, Bool.true_and, Bool.and_true]

/-- A zero beside a number is lost. -/
theorem fadd_zero_number {a b : Pat k} (ha : isZero k a = true) (hb : isNumber k b = true) :
    fadd k a b = b := by
  rw [fadd_of_isFinite (isFinite_of_isZero ha) (isFinite_of_isNumber hb), val_of_isZero ha, zero_add]
  exact roundingARepresentableValue k b _ hb

theorem fadd_number_zero {a b : Pat k} (ha : isNumber k a = true) (hb : isZero k b = true) :
    fadd k a b = a := by
  rw [fadd_of_isFinite (isFinite_of_isNumber ha) (isFinite_of_isZero hb), val_of_isZero hb, add_zero]
  exact roundingARepresentableValue k a _ ha

/-- A finite pattern and its negation add up to `+0`. -/
theorem fadd_fneg_self {x : Pat k} (h : isFinite k x = true) : fadd k x (fneg k x) = posZero k := by
  have hsign : zeroSumSign k x (fneg k x) = false := by
    rw [zeroSumSign, sign_fneg]
    cases sign k x <;> simp
  have hneg : isFinite k (fneg k x) = true := by rwa [isFinite_fneg]
  rw [fadd_of_isFinite h hneg, val_fneg, add_neg_cancel, hsign, roundNearest, if_pos rfl, posZero_eq_signBit]

theorem fsub_posZero {x : Pat k} (h : isFinite k x = true) : fsub k x (posZero k) = x := by
  have hzero : isZero k (fneg k (posZero k)) = true := by rw [isZero_fneg, isZero_posZero]
  obtain hx | hx := isZero_or_isNumber h
  · rw [fsub, fadd_of_isZero hx hzero, sign_fneg, sign_posZero, Bool.not_false, Bool.and_true]
    exact (eq_signBit_of_isZero hx).symm
  · exact fadd_number_zero hx hzero

theorem fsub_posZero_zero {x : Pat k} (h : isZero k x = true) : fsub k (posZero k) x = posZero k := by
  have hzero : isZero k (fneg k x) = true := by rwa [isZero_fneg]
  rw [fsub, fadd_of_isZero (isZero_posZero k) hzero, sign_posZero, Bool.false_and, posZero_eq_signBit]

theorem fsub_posZero_number {x : Pat k} (h : isNumber k x = true) : fsub k (posZero k) x = fneg k x :=
  fadd_zero_number (isZero_posZero k) (by rwa [isNumber_fneg])

theorem fsub_self {x : Pat k} (h : isFinite k x = true) : fsub k x x = posZero k := fadd_fneg_self h

theorem fadd_posZero_posZero (k : Kind) : fadd k (posZero k) (posZero k) = posZero k := by
  rw [fadd_of_isZero (isZero_posZero k) (isZero_posZero k), sign_posZero, Bool.and_false, posZero_eq_signBit]

/-! The transform (R140). -/

theorem isFinite_posZero (k : Kind) : isFinite k (posZero k) = true := isFinite_of_isZero (isZero_posZero k)

/-- Opposite operands cancel: the sum is `+0` and so is the residual, whichever of them comes first. -/
theorem twosumOrdered_fneg {x : Pat k} (h : isFinite k x = true) :
    twosumOrdered k x (fneg k x) = ⟨posZero k, posZero k⟩ := by
  have hneg : isFinite k (fneg k x) = true := by rwa [isFinite_fneg]
  have hzero := isFinite_posZero k
  unfold twosumOrdered
  rw [fadd_fneg_self h]
  dsimp only
  congr 1
  obtain hx | hx := isZero_or_isNumber h
  · rw [fsub_posZero_zero hx, fsub_self hzero, fsub_posZero h, fsub_posZero hneg, fadd_fneg_self h]
  · have hnumber : isNumber k (fneg k x) = true := by rwa [isNumber_fneg]
    rw [fsub_posZero_number hx, fsub_posZero_number hnumber, fneg_fneg, fsub_self h, fsub_self hneg]
    exact fadd_posZero_posZero k

/-- On finite operands the swap compares magnitudes. -/
theorem flt_fabs {a b : Pat k} (ha : isFinite k a = true) (hb : isFinite k b = true) :
    flt k (fabs k a) (fabs k b) = decide (magnitude k a < magnitude k b) := by
  have ha' : isFinite k (fabs k a) = true := by rwa [isFinite_fabs]
  have hb' : isFinite k (fabs k b) = true := by rwa [isFinite_fabs]
  simp [flt, ordered, extVal, extLt, isNan_eq_false_of_isFinite ha', isNan_eq_false_of_isFinite hb',
    isInf_eq_false_of_isFinite ha', isInf_eq_false_of_isFinite hb']

theorem twosum_of_lt {a b : Pat k} (ha : isFinite k a = true) (hb : isFinite k b = true)
    (h : magnitude k a < magnitude k b) : twosum k a b = twosumOrdered k b a := by
  rw [twosum, flt_fabs ha hb, decide_eq_true h, if_pos rfl]

theorem twosum_of_le {a b : Pat k} (ha : isFinite k a = true) (hb : isFinite k b = true)
    (h : magnitude k b ≤ magnitude k a) : twosum k a b = twosumOrdered k a b := by
  rw [twosum, flt_fabs ha hb, decide_eq_false h.not_gt, if_neg Bool.false_ne_true]

/-- Opposite operands give the same pair in either order. -/
theorem twosum_fneg_comm {x : Pat k} (h : isFinite k x = true) :
    twosum k (fneg k x) x = twosum k x (fneg k x) := by
  have hneg : isFinite k (fneg k x) = true := by rwa [isFinite_fneg]
  have hswapped := twosumOrdered_fneg hneg
  rw [fneg_fneg] at hswapped
  rw [twosum_of_le hneg h (magnitude_fneg x).ge, twosum_of_le h hneg (magnitude_fneg x).le, hswapped,
    twosumOrdered_fneg h]

end

/-- Settles O55: different magnitudes are put in order by the swap, and equal ones belong to equal or to
opposite operands. -/
theorem twosumIsOrderIndependent : Obligations.TwosumIsOrderIndependent := by
  intro k a b ha hb
  obtain hlt | heq | hgt := lt_trichotomy (magnitude k a) (magnitude k b)
  · rw [twosum_of_lt ha hb hlt, twosum_of_le hb ha hlt.le]
  · obtain rfl | rfl := eq_or_eq_fneg_of_magnitude ha hb heq
    · rfl
    · exact twosum_fneg_comm hb
  · rw [twosum_of_le ha hb hgt.le, twosum_of_lt hb ha hgt]

end Sys2Proof.Machine
end

section
/-! Lane commands that write `RES`: O21, O22 (spec/10_state.md R21 to R23; spec/42_rounding.md R155, R156;
spec/43_prng.md R175, R176; spec/46_dispatch.md R221). One loop rule serves every command that runs a lane
function in each lane; a command that draws nothing runs lane functions that need no draw. -/

namespace Sys2Proof.Machine

/-! `RES` plays no part in a draw. -/

/-- Setting the register `RES` alone (R22). -/
def withRes (r : LaneReg) (s : State) : State := { s with res := r }

theorem withRes_self (s : State) : withRes s.res s = s := rfl

theorem keepsInputs_withRes (r : LaneReg) (s : State) : KeepsInputs s (withRes r s) := rfl

theorem setRes_withRes (i : Fin 16) (v : Word) (r : LaneReg) (s : State) :
    setRes i v (withRes r s) = withRes (r.set i v) s := rfl

theorem lazyInit_withRes (r : LaneReg) (s : State) : lazyInit (withRes r s) = withRes r (lazyInit s) := by
  unfold lazyInit
  cases hinit : s.rngInit <;> cases hovr : s.seedOvrEn <;> simp [withRes, hinit, hovr, seedAll]

theorem run_withRes {w : Nat} (l : Lane w) (i : Fin 16) (r : LaneReg) (s : State) :
    l.run i (withRes r s) = ((l.run i s).1, withRes r (l.run i s).2) := by
  cases l with
  | plain v => rfl
  | draw f =>
    simp only [Lane.run_draw, drawRaw_eq, lazyInit_withRes]
    rfl

/-! The loop that writes `RES`. -/

section
variable {w : Nat}

/-- The state after lanes 0 to `n - 1` have run the lane functions `l` and written their results to `RES`,
starting from `s`. -/
def lanesWritten (l : Nat → Lane w) (s : State) (n : Nat) : State :=
  withRes (overwriteLanes n (fun j => (drawnValue l s j.val).setWidth 64) s.res)
    (afterElementDraws n (fun j => (l j).draws) s)

theorem lanesWritten_zero (l : Nat → Lane w) (s : State) : lanesWritten l s 0 = s := by
  rw [lanesWritten, overwriteLanes_zero, afterElementDraws_eq, streamsAfter_of_noDraw rfl]
  exact withRes_self s

theorem keepsInputs_lanesWritten (l : Nat → Lane w) (s : State) (n : Nat) :
    KeepsInputs s (lanesWritten l s n) :=
  (keepsInputs_afterElementDraws n _ s).trans (keepsInputs_withRes _ _)

/-- Lane `n` runs and writes after the lanes below it. -/
theorem runToRes_lanesWritten (l : Nat → Lane w) (s : State) {n : Nat} (hn : n < 16) :
    runToRes (l n) (lane n) (lanesWritten l s n) = lanesWritten l s (n + 1) := by
  have hvalue : drawnValue l s n = drawnValue l s (lane n).val :=
    congrArg (drawnValue l s) (Nat.mod_eq_of_lt hn).symm
  rw [runToRes, lanesWritten, run_withRes, run_afterElementDraws, setRes_withRes, hvalue]
  exact congrArg (withRes · _) (overwriteLanes_succ hn _ s.res)

/-- The loop writes every lane, if lane `i` runs the lane function `l i` in whatever state the lanes below it
leave, which keeps the inputs. -/
theorem forLanes_runToRes {l : Nat → Lane w} {n : Nat} {body : Nat → State → State} {s : State}
    (hn : n ≤ 16) (hbody : ∀ i t, KeepsInputs s t → body i t = runToRes (l i) (lane i) t) :
    forLanes n body s = lanesWritten l s n := by
  induction n with
  | zero => exact (lanesWritten_zero l s).symm
  | succ n ih =>
    rw [forLanes_succ, ih (by omega), hbody _ _ (keepsInputs_lanesWritten l s n)]
    exact runToRes_lanesWritten l s (by omega)

/-- The response after the loop gives the closed form. -/
theorem respond_lanesWritten (l : Nat → Lane w) (s : State) {n : Nat} (hn : n ≤ 16) :
    respond .ok (lanesWritten l s n) = lanesToRes n l s := by
  have hres : overwriteLanes n (fun j => (drawnValue l s j.val).setWidth 64) s.res =
      Vector.ofFn fun j => if j.val < n then
        (laneValue (l j.val) j (drawBase n (fun i => (l i).draws) s)).setWidth 64 else s.res[j] :=
    congrArg Vector.ofFn (funext fun j => ite_congr rfl (fun hj => by rw [laneValue_drawBase l s hj]) fun _ => rfl)
  rw [lanesWritten, hres, ← afterLaneDraws_eq hn]
  rfl

/-- Without a draw nothing is initialised and no stream moves (R175). -/
theorem afterElementDraws_of_noDraw {n : Nat} {draws : Nat → Bool} (h : someDraw n draws = false)
    (s : State) : afterElementDraws n draws s = s := by
  rw [afterElementDraws_eq, streamsAfter_of_noDraw h, drawBase, h, if_neg Bool.false_ne_true]

/-- A command that draws in no lane changes `RES` and the response only. -/
theorem lanesToRes_plain {n : Nat} (hn : n ≤ 16) (v : Nat → BitVec w) (s : State) :
    lanesToRes n (fun i => .plain (v i)) s = { s with
      res := Vector.ofFn fun j => if j.val < n then (v j.val).setWidth 64 else s.res[j]
      err := .ok } := by
  have hnone : someDraw n (fun i => (Lane.plain (v i)).draws) = false := by simp [someDraw, Lane.draws]
  have hdraws : afterLaneDraws n (fun i => (Lane.plain (v i)).draws) s = s :=
    (afterLaneDraws_eq hn _ s).trans (afterElementDraws_of_noDraw hnone s)
  rw [lanesToRes, hdraws]
  rfl

end

/-! The two component commands. -/

theorem operandA_of_keepsInputs {s t : State} (h : KeepsInputs s t) (k : Kind) (i : Nat) :
    operandA k i t = operandA k i s := congrArg Operands.a (laneOperands_of_keepsInputs h .fma k (lane i))

theorem operandB_of_keepsInputs {s t : State} (h : KeepsInputs s t) (k : Kind) (i : Nat) :
    operandB k i t = operandB k i s := congrArg Operands.b (laneOperands_of_keepsInputs h .fma k (lane i))

theorem operandC_of_keepsInputs {s t : State} (h : KeepsInputs s t) (k : Kind) (i : Nat) :
    operandC k i t = operandC k i s := congrArg Operands.c (laneOperands_of_keepsInputs h .fma k (lane i))

theorem srRoundLanes_eq (k : Kind) {n : Nat} (hn : n ≤ 16) (s : State) :
    srRoundLanes k n s =
      lanesToRes n (fun i => .plain (srRound k (operandA k i s) (operandB k i s) (operandC k i s))) s := by
  rw [srRoundLanes, ← respond_lanesWritten _ s hn]
  refine congrArg (respond .ok) (forLanes_runToRes hn fun i t ht => ?_)
  rw [srRoundLane, operandA_of_keepsInputs ht, operandB_of_keepsInputs ht, operandC_of_keepsInputs ht]
  rfl

theorem udRoundLanes_eq (k : Kind) {n : Nat} (hn : n ≤ 16) (s : State) :
    udRoundLanes k n s = lanesToRes n (fun i => udRound k (operandA k i s)) s := by
  rw [udRoundLanes, ← respond_lanesWritten _ s hn]
  refine congrArg (respond .ok) (forLanes_runToRes hn fun i t ht => ?_)
  rw [udRoundLane, operandA_of_keepsInputs ht]

/-- Settles O21: the loop over lane functions that need no draw. -/
theorem srroundResult : Obligations.SrroundResult := by
  intro i k lw s hform
  have heffect : formEffect i.form s = srRoundLanes k (2 ^ lw) s := by rw [hform]; rfl
  have hn := prim_lanes_le hform
  rw [exec_eq_effect, heffect, srRoundLanes_eq k hn, lanesToRes_plain hn]
  simp only [operandA, operandB, operandC, lane_of_lt]

/-- Settles O22: the loop over `ud_round`, which draws on numbers only. -/
theorem udroundResult : Obligations.UdroundResult := by
  intro i k lw s hform
  have heffect : formEffect i.form s = udRoundLanes k (2 ^ lw) s := by rw [hform]; rfl
  rw [exec_eq_effect, heffect, udRoundLanes_eq k (prim_lanes_le hform)]
  rfl

end Sys2Proof.Machine
end

section
/-! One pattern up or down: O49 (spec/40_format_primitives.md R111 to R114; spec/42_rounding.md R153, R154;
spec/45_kernels_ud.md R205 to R212). The bits below the sign bit order the magnitudes: a number lies strictly
between the zeros and the infinities, so a step from it passes neither. -/

namespace Sys2Proof.Machine

section
variable {k : Kind}

/-! The bits below the sign bit. -/

theorem fabs_toNat (x : Pat k) : (fabs k x).toNat = expField k x * 2 ^ k.mant + mantField k x :=
  toNat_and_not_signMask x

theorem toNat_eq_sign_fabs (x : Pat k) :
    x.toNat = 2 ^ (k.expBits + k.mant) * (sign k x).toNat + (fabs k x).toNat := by
  rw [fabs_toNat]
  exact toNat_eq_fields x

/-- A pattern has one sign bit and one rest. -/
theorem sign_and_fabs_of_toNat {y : Pat k} {s : Bool} {n : ℕ} (hn : n < 2 ^ (k.expBits + k.mant))
    (h : y.toNat = 2 ^ (k.expBits + k.mant) * s.toNat + n) : sign k y = s ∧ (fabs k y).toNat = n := by
  have hsign : sign k y = s := by
    rw [sign_eq, h]
    cases s
    · exact decide_eq_false (by rw [Bool.toNat_false]; omega)
    · exact decide_eq_true (by rw [Bool.toNat_true]; omega)
  have hself := toNat_eq_sign_fabs y
  rw [hsign, h] at hself
  exact ⟨hsign, (Nat.add_left_cancel hself).symm⟩

theorem fabs_toNat_pos_iff (x : Pat k) : 0 < (fabs k x).toNat ↔ ¬(expField k x = 0 ∧ mantField k x = 0) := by
  rw [Nat.pos_iff_ne_zero, Ne, fabs_toNat, Nat.add_eq_zero_iff, Nat.mul_eq_zero,
    or_iff_left (Nat.two_pow_pos _).ne']

/-- Below the infinities stand the finite patterns (R112). -/
theorem fabs_toNat_lt_iff (x : Pat k) :
    (fabs k x).toNat < expAll k * 2 ^ k.mant ↔ expField k x ≠ expAll k := by
  rw [fabs_toNat]
  obtain hlt | heq := (expField_le x).lt_or_eq
  · have hmant := mantField_lt x
    have hmul : (expField k x + 1) * 2 ^ k.mant ≤ expAll k * 2 ^ k.mant := Nat.mul_le_mul_right _ hlt
    rw [Nat.succ_mul] at hmul
    exact iff_of_true (by omega) hlt.ne
  · rw [heq]
    exact iff_of_false (by omega) fun hne => hne rfl

/-- A number lies between zero and infinity (R113). -/
theorem isNumber_iff_fabs (x : Pat k) :
    isNumber k x = true ↔ 0 < (fabs k x).toNat ∧ (fabs k x).toNat < expAll k * 2 ^ k.mant := by
  rw [isNumber_iff, fabs_toNat_pos_iff, fabs_toNat_lt_iff]

/-- Up to infinity there is no NaN (R112). -/
theorem isNan_eq_false_of_fabs {x : Pat k} (h : (fabs k x).toNat ≤ expAll k * 2 ^ k.mant) :
    isNan k x = false := by
  rw [← Bool.not_eq_true, isNan_iff]
  rintro ⟨hexp, hmant⟩
  rw [fabs_toNat, hexp] at h
  omega

/-! The two neighbours of a number (R154). -/

theorem one_toNat (k : Kind) : (1#k.width).toNat = 1 := by cases k <;> rfl

theorem two_pow_width (k : Kind) : 2 ^ k.width = 2 ^ (k.expBits + k.mant) * 2 := by
  rw [width_eq, Nat.pow_succ]

/-- Infinity leaves room below the sign bit. -/
theorem infinity_lt_two_pow (k : Kind) : expAll k * 2 ^ k.mant < 2 ^ (k.expBits + k.mant) :=
  joinFields_lt (t := 0) le_rfl (Nat.two_pow_pos _)

theorem toNat_add_one_of_isNumber {x : Pat k} (h : isNumber k x = true) :
    (x + 1#k.width).toNat = x.toNat + 1 := by
  have hbelow := ((isNumber_iff_fabs x).mp h).2
  have hinf := infinity_lt_two_pow k
  have hsign := Nat.mul_le_mul_left (2 ^ (k.expBits + k.mant)) (Bool.toNat_le (sign k x))
  have hlt : x.toNat + 1 < 2 ^ k.width := by
    rw [toNat_eq_sign_fabs, two_pow_width]
    omega
  rw [BitVec.toNat_add, one_toNat, Nat.mod_eq_of_lt hlt]

theorem toNat_sub_one_of_isNumber {x : Pat k} (h : isNumber k x = true) :
    (x - 1#k.width).toNat + 1 = x.toNat := by
  have hpos : 1 ≤ x.toNat := by
    have hfabs := ((isNumber_iff_fabs x).mp h).1
    rw [toNat_eq_sign_fabs]
    omega
  have hle : 1#k.width ≤ x := by rwa [BitVec.le_def, one_toNat]
  rw [BitVec.toNat_sub_of_le hle, one_toNat, Nat.sub_add_cancel hpos]

/-- A step of one from a number reaches at most a zero or an infinity of the same sign (R154). -/
theorem neighbour_of_isNumber {x y : Pat k} (h : isNumber k x = true)
    (hstep : y.toNat = x.toNat + 1 ∨ y.toNat + 1 = x.toNat) : sign k y = sign k x ∧ isNan k y = false := by
  obtain ⟨hpos, hfin⟩ := (isNumber_iff_fabs x).mp h
  have hx := toNat_eq_sign_fabs x
  obtain ⟨n, hn, hle⟩ : ∃ n, y.toNat = 2 ^ (k.expBits + k.mant) * (sign k x).toNat + n ∧
      n ≤ expAll k * 2 ^ k.mant := by
    obtain hup | hdown := hstep
    · exact ⟨(fabs k x).toNat + 1, by omega, hfin⟩
    · exact ⟨(fabs k x).toNat - 1, by omega, by omega⟩
  obtain ⟨hsign, hfabs⟩ := sign_and_fabs_of_toNat (hle.trans_lt (infinity_lt_two_pow k)) hn
  exact ⟨hsign, isNan_eq_false_of_fabs (hfabs.trans_le hle)⟩

/-- The step of `ud_round` on a number goes to the neighbour that bit 63 of the raw draw names (R153). -/
theorem udStep_toNat {x : Pat k} (h : isNumber k x = true) (r : Word) :
    (r.msb = true → (udStep k x r).toNat = x.toNat + 1) ∧
      (r.msb = false → (udStep k x r).toNat + 1 = x.toNat) := by
  unfold udStep
  constructor
  · intro hbit
    rw [if_pos hbit]
    exact toNat_add_one_of_isNumber h
  · intro hbit
    rw [if_neg (Bool.eq_false_iff.mp hbit)]
    exact toNat_sub_one_of_isNumber h

end

/-! The UD kernels. -/

/-- A UD kernel is the gate on its operands and `ud_round` on the plain result (R205 to R211). -/
theorem kernel_ud (op : Op) (k : Kind) (x : Operands k) :
    kernel .ud op k x = udGate k (gate op k x) (baseOp op k x) := by
  cases op with
  | add => simp [kernel, udAdd, gate, arity, baseOp]
  | sub => simp [kernel, udSub, udAdd, gate, arity, baseOp, fsub]
  | mul => simp [kernel, udMul, gate, arity, baseOp]
  | div => simp [kernel, udDiv, gate, arity, baseOp]
  | sqrt => simp [kernel, udSqrt, gate, arity, baseOp]
  | fma => simp [kernel, udFma, gate, arity, baseOp]

/-- What draws behind a gate is the step on a number (R153, R205). -/
theorem udGate_of_draws {k : Kind} {gate : Bool} {h : Pat k} (hdraws : (udGate k gate h).draws = true) :
    isNumber k h = true ∧ udGate k gate h = .draw (udStep k h) := by
  unfold udGate udRound at hdraws ⊢
  split_ifs at hdraws ⊢ with hgate hnumber
  · exact ⟨hnumber, rfl⟩
  · cases hdraws
  · cases hdraws

/-- Settles O49: a kernel that draws steps a number, whose neighbours keep the sign and are no NaN. -/
theorem udKernelStep : Obligations.UdKernelStep := by
  intro op k x r hdraws
  rw [kernel_ud] at hdraws ⊢
  obtain ⟨hnumber, hstep⟩ := udGate_of_draws hdraws
  rw [hstep]
  obtain ⟨hup, hdown⟩ := udStep_toNat hnumber r
  have hneighbour : (udStep k (baseOp op k x) r).toNat = (baseOp op k x).toNat + 1 ∨
      (udStep k (baseOp op k x) r).toNat + 1 = (baseOp op k x).toNat := by
    cases hbit : r.msb with
    | true => exact .inl (hup hbit)
    | false => exact .inr (hdown hbit)
  exact ⟨hup, hdown, neighbour_of_isNumber hnumber hneighbour⟩

end Sys2Proof.Machine
end

section
/-! A zero residual: O57 (spec/42_rounding.md R150, R152; spec/44_kernels_sr.md R191, R198). The perturbation is
`+0`, so `sr_finish` adds `+0` to `sigma`, class by class. -/

namespace Sys2Proof.Machine

section
variable {k : Kind}

/-! The perturbation (R150). -/

theorem extVal_of_isFinite {x : Pat k} (h : isFinite k x = true) : extVal k x = .fin (val k x) := by
  rw [extVal, isInf_eq_false_of_isFinite h, if_neg Bool.false_ne_true]

theorem extVal_of_isZero {x : Pat k} (h : isZero k x = true) : extVal k x = .fin 0 := by
  rw [extVal_of_isFinite (isFinite_of_isZero h), val_of_isZero h]

/-- The zeros compare equal (R126). -/
theorem feq_of_isZero {a b : Pat k} (ha : isZero k a = true) (hb : isZero k b = true) : feq k a b = true := by
  rw [feq, ordered, isNan_eq_false_of_isFinite (isFinite_of_isZero ha),
    isNan_eq_false_of_isFinite (isFinite_of_isZero hb), extVal_of_isZero ha, extVal_of_isZero hb]
  rfl

/-- Step (1) of `sr_round`: an exact operation is not perturbed (R150). -/
theorem srRound_of_isZero (sigma : Pat k) {tau : Pat k} (z : Pat k) (h : isZero k tau = true) :
    srRound k sigma tau z = posZero k := by
  rw [srRound, feq_of_isZero h (isZero_posZero k), if_pos rfl]

theorem srFinish_of_isZero (sigma : Pat k) {tau : Pat k} (z : Pat k) (h : isZero k tau = true) :
    srFinish k ⟨sigma, tau⟩ z = fadd k sigma (posZero k) := by
  rw [srFinish, srRound_of_isZero sigma z h]

/-! Adding `+0` (R120). -/

theorem isNan_posZero (k : Kind) : isNan k (posZero k) = false :=
  isNan_eq_false_of_isFinite (isFinite_posZero k)

theorem fadd_posZero_of_isNan {x : Pat k} (h : isNan k x = true) : fadd k x (posZero k) = canonNan k := by
  rw [fadd, h, Bool.true_or, if_pos rfl]

theorem fadd_posZero_of_isInf {x : Pat k} (h : isInf k x = true) : fadd k x (posZero k) = x := by
  simp [fadd, h, isNan_eq_false_of_isInf h, isNan_posZero, isInf_eq_false_of_isFinite (isFinite_posZero k)]

/-- A pattern that is no NaN is infinite or finite (R112). -/
theorem isInf_or_isFinite {x : Pat k} (h : isNan k x = false) : isInf k x = true ∨ isFinite k x = true := by
  rw [← Bool.not_eq_true, isNan_iff] at h
  rw [isInf_iff, isFinite_iff]
  omega

/-- Adding `+0` keeps the value, that of `-0` included, whose sign it drops (R120, U6). -/
theorem extVal_fadd_posZero {x : Pat k} (h : isNan k x = false) :
    extVal k (fadd k x (posZero k)) = extVal k x := by
  obtain hinf | hfin := isInf_or_isFinite h
  · rw [fadd_posZero_of_isInf hinf]
  obtain hzero | hnumber := isZero_or_isNumber hfin
  · rw [fadd_of_isZero hzero (isZero_posZero k), extVal_of_isZero hzero, extVal_of_isZero (isZero_signBit k _)]
  · rw [fadd_number_zero hnumber (isZero_posZero k)]

end

/-- Settles O57: with a zero residual `sr_finish` adds `+0` to `sigma`. -/
theorem exactResultsStay : Obligations.ExactResultsStay := by
  intro k sigma tau z hzero
  rw [srFinish_of_isZero sigma z hzero]
  exact ⟨extVal_fadd_posZero, fadd_posZero_of_isInf, fadd_posZero_of_isNan⟩

end Sys2Proof.Machine
end

section
/-! The exponent of the predecessor in `sr_round`: O56 (spec/42_rounding.md R150, R151). Only at a power of two
above `2^EMIN` does `|sigma| * (1 - 2^-M)` round into the binade below: elsewhere it stays in the binade of
`sigma`, or comes so close to its lower end that rounding carries it back. -/

namespace Sys2Proof.Machine

section
variable {k : Kind}

/-! The factor `1 - 2^-M` (R110). -/

/-- `2^-M`, what `ONE_MINUS_EPS` lacks to 1. -/
def epsilon (k : Kind) : ℚ := 2 ^ (-(k.mant : ℤ))

theorem two_pow_mant_mul_epsilon (k : Kind) : ((2 ^ k.mant : ℕ) : ℚ) * epsilon k = 1 := by
  rw [epsilon, two_pow_mul_zpow, add_neg_cancel, zpow_zero]

theorem epsilon_pos (k : Kind) : 0 < epsilon k := two_zpow_pos _

theorem epsilon_lt (k : Kind) : epsilon k < 1 / 4 := by
  cases k <;> norm_num [epsilon, Kind.mant]

theorem isFinite_oneMinusEps (k : Kind) : isFinite k (oneMinusEps k) = true := by cases k <;> rfl

theorem val_oneMinusEps (k : Kind) : val k (oneMinusEps k) = 1 - epsilon k := by
  have hfields : oneMinusEps k = ofFields k false (k.bias - 1).toNat (2 ^ k.mant - 2) := by cases k <;> rfl
  rw [hfields, val_ofFields_false (by cases k <;> decide) (by cases k <;> decide)]
  cases k <;> norm_num [epsilon, Kind.mant, Kind.bias]

/-! The predecessor before it is rounded. -/

/-- A product of finite patterns (R122). -/
theorem fmul_of_isFinite {a b : Pat k} (ha : isFinite k a = true) (hb : isFinite k b = true) :
    fmul k a b = roundNearest k (val k a * val k b) (sign k a ^^ sign k b) := by
  simp [fmul, isNan_eq_false_of_isFinite ha, isNan_eq_false_of_isFinite hb, isInf_eq_false_of_isFinite ha,
    isInf_eq_false_of_isFinite hb]

/-- The exact value that `pred_abs` rounds (R151). -/
def predValue (k : Kind) (x : Pat k) : ℚ := magnitude k x * (1 - epsilon k)

theorem predValue_pos {x : Pat k} (h : isNumber k x = true) : 0 < predValue k x :=
  mul_pos (magnitude_pos h) (by linarith [epsilon_lt k])

theorem predValue_le (x : Pat k) : predValue k x ≤ magnitude k x :=
  mul_le_of_le_one_right (magnitude_nonneg x) (by linarith [epsilon_pos k])

theorem half_magnitude_le_predValue (x : Pat k) : magnitude k x * (1 / 2) ≤ predValue k x :=
  mul_le_mul_of_nonneg_left (by linarith [epsilon_lt k]) (magnitude_nonneg x)

theorem predAbs_of_isNumber {x : Pat k} (h : isNumber k x = true) :
    predAbs k x =
      pack k false (roundExp k (predValue k x)) (nearestEven (scaled k (predValue k x))) := by
  have hpos := predValue_pos h
  have hfabs : isFinite k (fabs k x) = true := by
    rw [isFinite_fabs]
    exact isFinite_of_isNumber h
  rw [predAbs, fmul_of_isFinite hfabs (isFinite_oneMinusEps k), val_fabs, val_oneMinusEps, ← predValue,
    roundNearest_eq hpos.ne', abs_of_pos hpos, decide_eq_false hpos.not_gt]

/-- The predecessor in units of the spacing at the exponent where it is rounded. -/
theorem scaled_predValue {x : Pat k} {e : ℤ} (he : roundExp k (predValue k x) = e) :
    scaled k (predValue k x) = (significand k x - significand k x * epsilon k) * 2 ^ (getExponent k x - e) := by
  have hsplit : (2 : ℚ) ^ (getExponent k x - k.mant) = 2 ^ (getExponent k x - e) * 2 ^ (e - k.mant) := by
    rw [← zpow_add₀ two_ne_zero]
    congr 1
    ring
  rw [scaled, he, div_eq_iff (two_zpow_pos _).ne', predValue, magnitude_eq, hsplit]
  ring

/-! The exponent of what is rounded (R116, R117). -/

/-- Without a carry the exponent is the one where the value is rounded. -/
theorem getExponent_predAbs_of_lt {x : Pat k} (h : isNumber k x = true)
    (hf : nearestEven (scaled k (predValue k x)) < 2 ^ (k.mant + 1))
    (he : roundExp k (predValue k x) ≤ k.emax) :
    getExponent k (predAbs k x) = roundExp k (predValue k x) := by
  obtain ⟨_, hexp, _⟩ := pack_parts false (roundedPair_of_pos k (predValue_pos h)) hf he
  rw [predAbs_of_isNumber h, hexp]

/-- With a carry it is the next one. -/
theorem getExponent_predAbs_of_carry {x : Pat k} (h : isNumber k x = true)
    (hf : nearestEven (scaled k (predValue k x)) = 2 ^ (k.mant + 1))
    (he : roundExp k (predValue k x) + 1 ≤ k.emax) :
    getExponent k (predAbs k x) = roundExp k (predValue k x) + 1 := by
  have hlt : 2 ^ k.mant < 2 ^ (k.mant + 1) := Nat.pow_lt_pow_succ one_lt_two
  have hpair : RoundedPair k (roundExp k (predValue k x) + 1) (2 ^ k.mant) :=
    ⟨(emin_le_roundExp k (predValue k x)).trans (by omega), hlt.le, .inl le_rfl⟩
  obtain ⟨_, hexp, _⟩ := pack_parts false hpair hlt he
  rw [predAbs_of_isNumber h, hf, pack_carry, hexp]

/-! The three places where the predecessor can lie. -/

/-- In the binade of `sigma`, or among the subnormals: rounding keeps the exponent. -/
theorem getExponent_predAbs_of_same {x : Pat k} (h : isNumber k x = true)
    (hplace : (2 : ℚ) ^ getExponent k x ≤ predValue k x ∨ getExponent k x = k.emin) :
    getExponent k (predAbs k x) = getExponent k x := by
  have hround : roundExp k (predValue k x) = getExponent k x :=
    roundExp_unique (predValue_pos h) (emin_le_getExponent x) ((predValue_le x).trans_lt (magnitude_lt x)) hplace
  have hscaled : scaled k (predValue k x) ≤ significand k x := by
    rw [scaled_predValue hround, sub_self, zpow_zero, mul_one]
    exact sub_le_self _ (mul_nonneg (Nat.cast_nonneg _) (epsilon_pos k).le)
  have hf := (nearestEven_le (scaled_nonneg k (predValue_pos h)) hscaled).trans_lt (significand_lt x)
  rw [getExponent_predAbs_of_lt h hf (hround.trans_le (getExponent_le_emax (isFinite_of_isNumber h))), hround]

/-- Below the binade of a normal `sigma`: the predecessor is rounded one exponent lower. -/
theorem roundExp_predValue_of_below {x : Pat k} (h : isNumber k x = true) (hemin : k.emin < getExponent k x)
    (hbelow : predValue k x < 2 ^ getExponent k x) : roundExp k (predValue k x) = getExponent k x - 1 := by
  have hbinade : (2 : ℚ) ^ getExponent k x ≤ magnitude k x := by
    have hle := zpow_roundExp_le (k := k) (magnitude_pos h)
    rw [roundExp_magnitude h] at hle
    exact hle.resolve_right hemin.ne'
  have hlow : (2 : ℚ) ^ (getExponent k x - 1) ≤ predValue k x := by
    rw [zpow_sub_one₀ two_ne_zero]
    linarith [half_magnitude_le_predValue x]
  exact roundExp_unique (predValue_pos h) (by omega) (by rwa [sub_add_cancel]) (.inl hlow)

/-- The predecessor of a power of two is a pattern of the binade below. -/
theorem getExponent_predAbs_of_power {x : Pat k} (h : isNumber k x = true) (hemin : k.emin < getExponent k x)
    (hsig : significand k x = 2 ^ k.mant) : getExponent k (predAbs k x) = getExponent k x - 1 := by
  have hbelow : predValue k x < 2 ^ getExponent k x := by
    rw [predValue, magnitude_eq, hsig, two_pow_mul_zpow, add_sub_cancel]
    exact mul_lt_of_lt_one_right (two_zpow_pos _) (by linarith [epsilon_pos k])
  have hround := roundExp_predValue_of_below h hemin hbelow
  have hpow : 2 ≤ 2 ^ (k.mant + 1) := Nat.le_self_pow k.mant.succ_ne_zero 2
  have hscaled : scaled k (predValue k x) = (2 ^ (k.mant + 1) - 2 : ℕ) := by
    rw [scaled_predValue hround, sub_sub_cancel, zpow_one, hsig, two_pow_mant_mul_epsilon, Nat.cast_sub hpow]
    push_cast
    ring
  have hf : nearestEven (scaled k (predValue k x)) < 2 ^ (k.mant + 1) := by
    rw [hscaled, nearestEven_natCast]
    omega
  have hmax := getExponent_le_emax (isFinite_of_isNumber h)
  rw [getExponent_predAbs_of_lt h hf (by omega), hround]

/-- Otherwise a predecessor below the binade is nearest to the binade's lower end: rounding carries. -/
theorem getExponent_predAbs_of_below {x : Pat k} (h : isNumber k x = true) (hemin : k.emin < getExponent k x)
    (hsig : significand k x ≠ 2 ^ k.mant) (hbelow : predValue k x < 2 ^ getExponent k x) :
    getExponent k (predAbs k x) = getExponent k x := by
  have hround := roundExp_predValue_of_below h hemin hbelow
  have hpos := predValue_pos h
  have hlead : ((2 ^ k.mant + 1 : ℕ) : ℚ) ≤ significand k x :=
    Nat.cast_le.mpr (lt_of_le_of_ne ((leading_significand x).resolve_right hemin.ne') hsig.symm)
  have hscaled : ((2 ^ (k.mant + 1) : ℕ) : ℚ) - 1 / 2 < scaled k (predValue k x) := by
    rw [scaled_predValue hround, sub_sub_cancel, zpow_one]
    have hunit := two_pow_mant_mul_epsilon k
    have heps := epsilon_lt k
    have hmul := mul_le_mul_of_nonneg_right hlead (by linarith : 0 ≤ 1 - epsilon k)
    push_cast at hunit hmul ⊢
    rw [pow_succ]
    linarith
  have hf : nearestEven (scaled k (predValue k x)) = 2 ^ (k.mant + 1) := by
    have hnear := (abs_le.mp (abs_nearestEven_sub_le_half (scaled_nonneg k hpos))).1
    have hgt : ((2 ^ (k.mant + 1) : ℕ) : ℚ) < (nearestEven (scaled k (predValue k x)) + 1 : ℕ) := by
      push_cast at hscaled ⊢
      linarith
    exact le_antisymm (roundedPair_of_pos k hpos).le_carry (Nat.lt_succ_iff.mp (Nat.cast_lt.mp hgt))
  have hmax := getExponent_le_emax (isFinite_of_isNumber h)
  rw [getExponent_predAbs_of_carry h hf (by omega), hround, sub_add_cancel]

/-- The powers of two above `2^EMIN` by their fields (R111, R117). -/
theorem power_above_emin_iff (x : Pat k) :
    mantField k x = 0 ∧ 1 < expField k x ↔ k.emin < getExponent k x ∧ significand k x = 2 ^ k.mant := by
  have hmant := mantField_lt x
  rw [getExponent, emin_eq, significand]
  split_ifs <;> omega

theorem getExponent_predAbs {x : Pat k} (h : isNumber k x = true) :
    getExponent k (predAbs k x) =
      if mantField k x = 0 ∧ 1 < expField k x then getExponent k x - 1 else getExponent k x := by
  split_ifs with hpower
  · obtain ⟨hemin, hsig⟩ := (power_above_emin_iff x).mp hpower
    exact getExponent_predAbs_of_power h hemin hsig
  obtain hle | hbelow := le_or_gt (2 ^ getExponent k x) (predValue k x)
  · exact getExponent_predAbs_of_same h (.inl hle)
  obtain hemin | hemin := (emin_le_getExponent x).lt_or_eq
  · exact getExponent_predAbs_of_below h hemin
      (fun hsig => hpower ((power_above_emin_iff x).mpr ⟨hemin, hsig⟩)) hbelow
  · exact getExponent_predAbs_of_same h (.inr hemin.symm)

end

/-- Settles O56: only when the signs differ does step (3) look at the predecessor, whose exponent is known. -/
theorem predecessorExponent : Obligations.PredecessorExponent := by
  intro k sigma tau hnumber
  simp only [srExponent, getExponent_predAbs hnumber, bne_iff_ne, ite_and]

end Sys2Proof.Machine
end

section
/-! The random stream as functions of its state: O25, O31, O32, O33 (spec/43_prng.md R167 to R174, R284). The
default recurrence is linear over exclusive or, so jumps commute with it and keep the all-zero state; the
default mixer's output step takes no word but 0 to 0. -/

namespace Sys2Proof.Machine

/-! Where `init_streams` starts the streams (R174). -/

theorem laneStarts_getElem (p : Prng) {n j : Nat} (base : Stream) (h : j < (laneStarts p n base).length) :
    (laneStarts p n base)[j] = repeated (jump p) j base := by
  induction n generalizing j base with
  | zero => exact absurd h (Nat.not_lt_zero j)
  | succ n ih =>
    cases j with
    | zero => rfl
    | succ j => exact ih (jump p base) (Nat.lt_of_succ_lt_succ h)

theorem initStreams_getElem (p : Prng) (seed : Word) (idx : BitVec 16) {j : Nat} (h : j < 16) :
    (initStreams p seed idx)[j] =
      repeated (jump p) j (repeated (ljump p) idx.toNat (seedState p seed)) :=
  laneStarts_getElem p _ (by rwa [laneStarts_length])

/-- Settles O25: stream `j` stands `j` jumps after the long jumps by the index. -/
theorem initStreamsSpacing : Obligations.InitStreamsSpacing := by
  intro p seed idx
  refine ⟨initStreams_getElem p seed idx (by decide), fun j h => ?_⟩
  rw [initStreams_getElem p seed idx h, initStreams_getElem p seed idx (Nat.lt_of_succ_lt h)]
  exact repeated_succ (jump p) j _

/-! The default recurrence is linear (R167). -/

/-- The two halves of a rotated word share no bit, so rotation is linear (R9). -/
theorem rotl64_xor (x y : Word) (k : Nat) (hk : k ≤ 64) : rotl64 (x ^^^ y) k = rotl64 x k ^^^ rotl64 y k := by
  ext i hi
  simp only [rotl64, BitVec.getElem_or, BitVec.getElem_xor, BitVec.getElem_shiftLeft,
    BitVec.getElem_ushiftRight, BitVec.getLsbD_xor]
  by_cases hlow : i < k
  · simp [hlow]
  · have hout (z : Word) : z.getLsbD (64 - k + i) = false := BitVec.getLsbD_of_ge z _ (by omega)
    simp [hlow, hout]

theorem xor_interchange (a a' b b' : Word) : a ^^^ a' ^^^ (b ^^^ b') = a ^^^ b ^^^ (a' ^^^ b') := by ac_rfl

theorem xor_three_interchange (a a' b b' c c' : Word) :
    a ^^^ a' ^^^ (b ^^^ b') ^^^ (c ^^^ c') = a ^^^ b ^^^ c ^^^ (a' ^^^ b' ^^^ c') := by
  rw [xor_interchange a, xor_interchange (a ^^^ b)]

theorem xoshiroAdvance_xorStream (a b : Stream) :
    xoshiroAdvance (xorStream a b) = xorStream (xoshiroAdvance a) (xoshiroAdvance b) := by
  have hrotl (x y : Word) : rotl64 (x ^^^ y) 45 = rotl64 x 45 ^^^ rotl64 y 45 := rotl64_xor x y 45 (by decide)
  simp only [xoshiroAdvance, xorStream, hrotl, BitVec.shiftLeft_xor_distrib, Stream.mk.injEq]
  exact ⟨xor_three_interchange .., xor_three_interchange .., xor_three_interchange .., xor_interchange ..⟩

theorem xoshiroAdvance_zeroStream : xoshiroAdvance zeroStream = zeroStream := by decide

theorem xorStream_zeroStream : xorStream zeroStream zeroStream = zeroStream := by decide

section
variable {p : Prng}

theorem advance_of_xoshiro (h : p.engine = .xoshiro256) (s : Stream) : advance p s = xoshiroAdvance s := by
  simp only [advance, h]

theorem advance_xorStream (h : p.engine = .xoshiro256) (a b : Stream) :
    advance p (xorStream a b) = xorStream (advance p a) (advance p b) := by
  simp only [advance_of_xoshiro h, xoshiroAdvance_xorStream]

theorem advance_zeroStream (h : p.engine = .xoshiro256) : advance p zeroStream = zeroStream := by
  rw [advance_of_xoshiro h, xoshiroAdvance_zeroStream]

/-! Polynomial jumps (R169, R170). -/

/-- The loop of `polyjump` from an advanced accumulator and an advanced scratch copy. -/
theorem polyJumpLoop_advance (h : p.engine = .xoshiro256) (bits : List Bool) (acc s : Stream) :
    polyJumpLoop p bits (advance p acc) (advance p s) = advance p (polyJumpLoop p bits acc s) := by
  induction bits generalizing acc s with
  | nil => rfl
  | cons b bits ih =>
    cases b with
    | false => exact ih acc (advance p s)
    | true =>
      rw [polyJumpLoop, polyJumpLoop, if_pos rfl, if_pos rfl, ← advance_xorStream h]
      exact ih (xorStream acc s) (advance p s)

/-- Settles O31: the accumulator starts at the all-zero state, which the recurrence keeps. -/
theorem jumpsCommuteWithAdvance : Obligations.JumpsCommuteWithAdvance := by
  intro p poly s h
  have hloop := polyJumpLoop_advance h (polyBits poly) zeroStream s
  rwa [advance_zeroStream h] at hloop

theorem polyJumpLoop_zeroStream (h : p.engine = .xoshiro256) (bits : List Bool) :
    polyJumpLoop p bits zeroStream zeroStream = zeroStream := by
  induction bits with
  | nil => rfl
  | cons b bits ih => rw [polyJumpLoop, xorStream_zeroStream, ite_self, advance_zeroStream h, ih]

theorem out_zeroStream (h : p.scrambler = .plusPlus) : out p zeroStream = 0#64 := by
  simp only [out, h]
  decide

end

/-- Settles O32: both jumps are polynomial jumps. -/
theorem allZeroStreamIsStuck : Obligations.AllZeroStreamIsStuck := by
  intro p hengine hscrambler
  have hjump (poly : Stream) : polyJump p poly zeroStream = zeroStream :=
    polyJumpLoop_zeroStream hengine (polyBits poly)
  exact ⟨out_zeroStream hscrambler, advance_zeroStream hengine, hjump p.jumpPoly, hjump p.ljumpPoly⟩

/-! The default mixer (R171). -/

theorem eq_zero_of_xor_ushiftRight {x : Word} {n : Nat} (hn : n ≠ 0) (h : x ^^^ (x >>> n) = 0#64) : x = 0#64 := by
  have hshift : x.toNat = x.toNat / 2 ^ n := by
    conv_lhs => rw [BitVec.xor_eq_zero_iff.mp h]
    rw [BitVec.toNat_ushiftRight, Nat.shiftRight_eq_div_pow]
  by_contra hne
  have hpos : 0 < x.toNat := Nat.pos_of_ne_zero fun h0 => hne (BitVec.eq_of_toNat_eq h0)
  exact absurd hshift (Nat.div_lt_self hpos (Nat.one_lt_two_pow hn)).ne'

theorem eq_zero_of_mul_unit {x c : Word} (d : Word) (hunit : c * d = 1#64) (h : x * c = 0#64) : x = 0#64 := by
  calc x = x * (c * d) := by rw [hunit, BitVec.mul_one]
    _ = x * c * d := (BitVec.mul_assoc _ _ _).symm
    _ = 0#64 := by rw [h, BitVec.zero_mul]

/-- The output step undone from its end: an exclusive or with the shifted word and a product with an odd
constant, whose inverse modulo `2^64` is written out, both take no word but 0 to 0. -/
theorem eq_zero_of_splitMixOut {x : Word} (h : splitMixOut x = 0#64) : x = 0#64 := by
  have hsecond := eq_zero_of_mul_unit 0x319642B2D24D8EC3#64 (by decide)
    (eq_zero_of_xor_ushiftRight (by decide) h)
  have hfirst := eq_zero_of_mul_unit 0x96DE1B173F119089#64 (by decide)
    (eq_zero_of_xor_ushiftRight (by decide) hsecond)
  exact eq_zero_of_xor_ushiftRight (by decide) hfirst

/-- Settles O33: two words that are 0 come from two counters that are 0, but the counters differ. -/
theorem seedingNeverGivesZero : Obligations.SeedingNeverGivesZero := by
  intro p seed hmixer hzero
  simp only [seedState, mix, hmixer, zeroStream, Stream.mk.injEq] at hzero
  obtain ⟨hfirst, hsecond, -, -⟩ := hzero
  have hcounter := eq_zero_of_splitMixOut hsecond
  rw [eq_zero_of_splitMixOut hfirst] at hcounter
  exact absurd hcounter (by decide)

end Sys2Proof.Machine
end

section
/-! The random-stream commands: O23, O26 to O30 (spec/43_prng.md R174 to R182). `rng::next` and `rng::uniform`
run a lane function that draws in every lane; `rng::jump` and `rng::ljump` move each stream by one function. -/

namespace Sys2Proof.Machine

/-! Seeding (R175, R178). -/

/-- Settles O23: the effect of `rng::seed` is `init_streams` and the response. -/
theorem seedResult : Obligations.SeedResult := exec_eq_effect .rngSeed

theorem lazyInit_of_override {s : State} (hinit : s.rngInit = false) (hovr : s.seedOvrEn = true) :
    lazyInit s = seedAll s.seedOvr s.tid s := by
  simp [lazyInit, hinit, hovr]

theorem lazyInit_of_sample {s : State} (hinit : s.rngInit = false) (hovr : s.seedOvrEn = false) :
    lazyInit s =
      { seedAll (Config.envSeed s.envSamples) s.tid s with envSamples := s.envSamples + 1 } := by
  simp [lazyInit, hinit, hovr]

/-- Settles O26: one equation of `lazy_init` for each case. -/
theorem lazyInitialisation : Obligations.LazyInitialisation := fun _ =>
  ⟨lazyInit_of_init, lazyInit_of_override, lazyInit_of_sample⟩

/-- A legal random-stream command has at most 16 lanes (R81, R87). -/
theorem rng_lanes_le {i : Instr} {op : RngOp} {k : Kind} {lw : Nat} (hform : i.form = .rng op k lw) :
    2 ^ lw ≤ 16 := by
  have hwf := instr_wellFormed i
  rw [Instr.wellFormed, hform] at hwf
  exact Nat.pow_le_pow_right two_pos (rngWidthOk_le (Bool.and_eq_true_iff.mp hwf).2)

/-! Streams moved from lane 0 on. -/

/-- The streams `v` with those of the lanes below `n` moved by `f` (R181, R182). -/
def moveStreams (n : Nat) (f : Stream → Stream) (v : Vector Stream 16) : Vector Stream 16 :=
  Vector.ofFn fun j => if j.val < n then f v[j] else v[j]

theorem moveStreams_getElem (n : Nat) (f : Stream → Stream) (v : Vector Stream 16) (j : Fin 16) :
    (moveStreams n f v)[j] = if j.val < n then f v[j] else v[j] := by
  simp [moveStreams]

theorem moveStreams_zero (f : Stream → Stream) (v : Vector Stream 16) : moveStreams 0 f v = v :=
  Vector.ext fun i hi => by simp [moveStreams]

/-- Lane `n` has not moved while the lanes below it have. -/
theorem moveStreams_getElem_lane {n : Nat} (hn : n < 16) (f : Stream → Stream) (v : Vector Stream 16) :
    (moveStreams n f v)[lane n] = v[lane n] := by
  rw [moveStreams_getElem, if_neg (by rw [lane_val]; omega)]

/-- Moving lane `n` after the lanes below it moves one lane more. -/
theorem moveStreams_succ {n : Nat} (hn : n < 16) (f : Stream → Stream) (v : Vector Stream 16) :
    (moveStreams n f v).set (lane n) (f v[lane n]) = moveStreams (n + 1) f v := by
  have hlanes (j : Fin 16) :
      ((moveStreams n f v).set (lane n) (f v[lane n]))[j] = (moveStreams (n + 1) f v)[j] := by
    rw [getElem_set_fin, moveStreams_getElem, moveStreams_getElem]
    obtain rfl | hne := eq_or_ne j (lane n)
    · rw [if_pos rfl, if_pos (by rw [lane_val]; omega)]
    · have hval : j.val ≠ n := fun heq => hne (by rw [← heq, lane_of_lt])
      simp only [if_neg hne, Nat.lt_succ_iff_lt_or_eq, hval, or_false]
  exact Vector.ext fun i hi => hlanes ⟨i, hi⟩

/-- Lanes are independent: each moves its own stream, by a function that the parameters fix (R221). -/
theorem forLanes_setStream (f : Prng → Stream → Stream) {n : Nat} (hn : n ≤ 16) (s : State) :
    forLanes n (fun i t => setStream (lane i) (f t.params.prng t.streams[lane i]) t) s =
      { s with streams := moveStreams n (f s.params.prng) s.streams } := by
  induction n with
  | zero => rw [forLanes_zero, moveStreams_zero]
  | succ n ih =>
    rw [forLanes_succ, ih (by omega), ← moveStreams_succ (by omega)]
    dsimp only
    rw [moveStreams_getElem_lane (by omega)]
    rfl

/-- The common closed form of the jump commands, with `f` the jump. -/
theorem respond_forLanes_setStream (f : Prng → Stream → Stream) {n : Nat} (hn : n ≤ 16) (s : State) :
    respond .ok (forLanes n (fun i t => setStream (lane i) (f t.params.prng t.streams[lane i]) t) (lazyInit s)) =
      { lazyInit s with
        streams := moveStreams n (f s.params.prng) (lazyInit s).streams
        err := .ok } := by
  rw [forLanes_setStream f hn, ← lazyInit_params s]
  rfl

/-- Settles O29: the loop that moves each stream by `Jump()`. -/
theorem jumpResult : Obligations.JumpResult := by
  intro i k lw s hform
  rw [exec_eq_effect, hform]
  exact congrArg Host.Outcome.next (respond_forLanes_setStream jump (rng_lanes_le hform) s)

/-- Settles O30: the loop that moves each stream by `LongJump()`. -/
theorem ljumpResult : Obligations.LjumpResult := by
  intro i k lw s hform
  rw [exec_eq_effect, hform]
  exact congrArg Host.Outcome.next (respond_forLanes_setStream ljump (rng_lanes_le hform) s)

/-! Commands that draw in every lane (R179, R180). -/

/-- The closed form of a command all of whose lanes draw: the streams are initialised, then each lane takes
its own raw draw. -/
theorem lanesToRes_draw {w n : Nat} (hpos : 0 < n) (f : Word → BitVec w) (s : State) :
    lanesToRes n (fun _ => .draw f) s = { lazyInit s with
      res := Vector.ofFn fun j =>
        if j.val < n then (f (out s.params.prng (lazyInit s).streams[j])).setWidth 64 else s.res[j]
      streams := moveStreams n (advance s.params.prng) (lazyInit s).streams
      err := .ok } := by
  have hbase : drawBase n (fun _ => true) s = lazyInit s := drawBase_of_draw hpos rfl s
  simp [lanesToRes, afterLaneDraws, laneValue, Lane.draws, Lane.value, hbase, moveStreams]

/-- The loop that draws in every lane, with the response. -/
theorem respond_forLanes_draw {w n : Nat} (hpos : 0 < n) (hn : n ≤ 16) (f : Word → BitVec w) (s : State) :
    respond .ok (forLanes n (fun i => runToRes (.draw f) (lane i)) s) = { lazyInit s with
      res := Vector.ofFn fun j =>
        if j.val < n then (f (out s.params.prng (lazyInit s).streams[j])).setWidth 64 else s.res[j]
      streams := moveStreams n (advance s.params.prng) (lazyInit s).streams
      err := .ok } := by
  rw [forLanes_runToRes (l := fun _ => .draw f) hn fun _ _ _ => rfl, respond_lanesWritten _ s hn,
    lanesToRes_draw hpos]

/-- Settles O27: every lane's function is the raw draw itself, which fills its slot. -/
theorem nextResult : Obligations.NextResult := by
  intro i k lw s hform
  have hclosed := respond_forLanes_draw (Nat.two_pow_pos lw) (rng_lanes_le hform) (id : Word → Word) s
  simp only [BitVec.setWidth_eq] at hclosed
  rw [exec_eq_effect, hform]
  exact congrArg Host.Outcome.next hclosed

/-- Settles O28: every lane's function is the uniform mapping. -/
theorem uniformResult : Obligations.UniformResult := by
  intro i k lw s hform
  rw [exec_eq_effect, hform]
  exact congrArg Host.Outcome.next
    (respond_forLanes_draw (Nat.two_pow_pos lw) (rng_lanes_le hform) (uniform k) s)

end Sys2Proof.Machine
end

section
/-! The uniform mapping: O34 (spec/43_prng.md R177; spec/40_format_primitives.md R115, R116). The top `M + 1` bits
of a raw draw fit the significand, so the scaled value lies on the grid of a finite exponent and is rounded to
itself. -/

namespace Sys2Proof.Machine

section
variable {k : Kind}

/-! Values on the grid of a finite exponent (R116). -/

/-- A packed pair that neither carries nor overflows is finite, and its value is the pair's. -/
theorem isFinite_and_val_pack {e : ℤ} {f : ℕ} (h : RoundedPair k e f) (hf : f < 2 ^ (k.mant + 1))
    (he : e ≤ k.emax) :
    isFinite k (pack k false e f) = true ∧ val k (pack k false e f) = f * 2 ^ (e - k.mant) := by
  obtain ⟨hsign, hexp, hsig⟩ := pack_parts false h hf he
  constructor
  · have hall := expAll_eq k
    rw [getExponent] at hexp
    rw [isFinite_iff]
    omega
  · rw [val, hsign, if_neg Bool.false_ne_true, magnitude_eq, hexp, hsig]

/-- A value that is an integer in units of the spacing at its exponent is rounded to itself, when its exponent
does not overflow. -/
theorem roundNearest_of_scaled {v : ℚ} {m : ℕ} (zs : Bool) (hv : 0 < v) (hm : scaled k v = m)
    (hmax : roundExp k v ≤ k.emax) :
    isFinite k (roundNearest k v zs) = true ∧ val k (roundNearest k v zs) = v := by
  have hpair := roundedPair_of_pos k hv
  have hlt : m < 2 ^ (k.mant + 1) := by
    have hscaled : (m : ℚ) < (2 ^ (k.mant + 1) : ℕ) := by
      rw [← hm, scaled, div_lt_iff₀ (two_zpow_pos _), two_pow_mul_zpow]
      refine (lt_zpow_roundExp_succ k hv).trans_eq ?_
      congr 1
      push_cast
      ring
    exact_mod_cast hscaled
  have hround : roundNearest k v zs = pack k false (roundExp k v) m := by
    rw [roundNearest_eq hv.ne', abs_of_pos hv, hm, nearestEven_natCast, decide_eq_false hv.not_gt]
  rw [hm, nearestEven_natCast] at hpair
  obtain ⟨hfin, hval⟩ := isFinite_and_val_pack hpair hlt hmax
  rw [hround]
  exact ⟨hfin, by rw [hval, ← hm, scaled_mul]⟩

/-- A significand times the spacing at a finite exponent is rounded to itself (R116). -/
theorem roundNearest_grid (zs : Bool) {n : ℕ} {e : ℤ} (hn : n < 2 ^ (k.mant + 1)) (hmin : k.emin ≤ e)
    (hmax : e ≤ k.emax) :
    isFinite k (roundNearest k (n * 2 ^ (e - k.mant)) zs) = true ∧
      val k (roundNearest k (n * 2 ^ (e - k.mant)) zs) = n * 2 ^ (e - k.mant) := by
  obtain rfl | hpos := n.eq_zero_or_pos
  · rw [Nat.cast_zero, zero_mul, roundNearest, if_pos rfl]
    exact ⟨isFinite_of_isZero (isZero_signBit k zs), val_signBit k zs⟩
  have hv : (0 : ℚ) < n * 2 ^ (e - k.mant) := mul_pos (Nat.cast_pos.mpr hpos) (two_zpow_pos _)
  have hexp : roundExp k (n * 2 ^ (e - k.mant)) ≤ e := by
    have hbelow : (n * 2 ^ (e - k.mant) : ℚ) < 2 ^ (e + 1) := by
      calc (n * 2 ^ (e - k.mant) : ℚ) < (2 ^ (k.mant + 1) : ℕ) * 2 ^ (e - k.mant) :=
            mul_lt_mul_of_pos_right (Nat.cast_lt.mpr hn) (two_zpow_pos _)
        _ = 2 ^ (e + 1) := by
            rw [two_pow_mul_zpow]
            congr 1
            push_cast
            ring
    have hlog := (zpow_lt_zpow_iff_right₀ one_lt_two).mp ((zpow_floorLog2_le hv).1.trans_lt hbelow)
    exact max_le (Int.lt_add_one_iff.mp hlog) hmin
  refine roundNearest_of_scaled (m := n * 2 ^ (e - roundExp k (n * 2 ^ (e - k.mant))).toNat) zs hv ?_
    (hexp.trans hmax)
  rw [scaled, div_eq_iff (two_zpow_pos _).ne', Nat.cast_mul, mul_assoc, two_pow_mul_zpow,
    Int.toNat_of_nonneg (sub_nonneg.mpr hexp)]
  congr 2
  ring

/-! The uniform mapping (R177). -/

/-- The top bits of a raw draw, as a number. -/
theorem toNat_topBits (k : Kind) (r : Word) :
    (r >>> (64 - uniformBits k)).toNat = r.toNat / 2 ^ (64 - uniformBits k) := by
  rw [BitVec.toNat_ushiftRight, Nat.shiftRight_eq_div_pow]

theorem topBits_lt (k : Kind) (r : Word) : r.toNat / 2 ^ (64 - uniformBits k) < 2 ^ uniformBits k := by
  have hle : uniformBits k ≤ 64 := by cases k <;> decide
  rw [Nat.div_lt_iff_lt_mul (Nat.two_pow_pos _), ← Nat.pow_add, Nat.add_sub_cancel' hle]
  exact r.isLt

/-- The scaled top bits as a significand times the spacing at the exponent -1. -/
theorem uniform_eq (k : Kind) (r : Word) :
    uniform k r = roundNearest k ((r.toNat / 2 ^ (64 - uniformBits k) : ℕ) * 2 ^ (-1 - k.mant : ℤ)) false := by
  have hexp : -(uniformBits k : ℤ) = -1 - k.mant := by
    rw [uniformBits]
    push_cast
    ring
  rw [uniform, toNat_topBits, pow2Rat_eq, hexp]

theorem uniform_isFinite_and_val (k : Kind) (r : Word) :
    isFinite k (uniform k r) = true ∧
      val k (uniform k r) = (r.toNat / 2 ^ (64 - uniformBits k) : ℕ) / 2 ^ uniformBits k := by
  have hmin : k.emin ≤ -1 := by cases k <;> decide
  have hmax : -1 ≤ k.emax := by cases k <;> decide
  have hscale : (2 : ℚ) ^ (-1 - k.mant : ℤ) = (2 ^ uniformBits k)⁻¹ := by
    rw [← zpow_natCast, ← zpow_neg, uniformBits]
    congr 1
    push_cast
    ring
  obtain ⟨hfin, hval⟩ := roundNearest_grid false (topBits_lt k r) hmin hmax
  rw [uniform_eq]
  exact ⟨hfin, by rw [hval, hscale, div_eq_mul_inv]⟩

theorem uniform_mem_unitInterval (k : Kind) (r : Word) : 0 ≤ val k (uniform k r) ∧ val k (uniform k r) < 1 := by
  rw [(uniform_isFinite_and_val k r).2, div_lt_one (by positivity)]
  exact ⟨by positivity, by exact_mod_cast topBits_lt k r⟩

end

/-- Settles O34: `P` is `M + 1`, the number of bits a significand has. -/
theorem uniformIsExact : Obligations.UniformIsExact := by
  intro k r
  obtain ⟨hfin, hval⟩ := uniform_isFinite_and_val k r
  cases k with
  | f32 => exact ⟨hfin, hval, uniform_mem_unitInterval .f32 r⟩
  | f64 => exact ⟨hfin, hval, uniform_mem_unitInterval .f64 r⟩

end Sys2Proof.Machine
end

section
/-! The gate of the kernels and the value of the SR kernels: O47, O48 (spec/44_kernels_sr.md R190 to R198;
spec/45_kernels_ud.md R205 to R212). Every SR kernel is one gate before `sr_finish` on the pair its rule gives. -/

namespace Sys2Proof.Machine

section
variable {k : Kind}

/-- The pair `(sigma, tau)` that an SR kernel finishes (R192 to R197). -/
def srPair (op : Op) (k : Kind) (x : Operands k) : ErrorPair k :=
  match op with
  | .add => twosum k x.a x.b
  | .sub => twosum k x.a (fneg k x.b)
  | .mul => twoprod k x.a x.b
  | .div => divResidual k x.a x.b
  | .sqrt => sqrtResidual k x.a
  | .fma => fmaResidual k x.a x.b x.c

/-- An SR kernel is the gate on its operands before the draw, else the plain result (R190, R192 to R197). -/
theorem kernel_sr (op : Op) (k : Kind) (x : Operands k) :
    kernel .sr op k x = if gate op k x then srDraw k (srPair op k x) else .plain (baseOp op k x) := by
  cases op with
  | add => simp [kernel, srAdd, gate, arity, baseOp, srPair]
  | sub => simp [kernel, srSub, srAdd, gate, arity, baseOp, srPair, fsub]
  | mul => simp [kernel, srMul, gate, arity, baseOp, srPair]
  | div => simp [kernel, srDiv, gate, arity, baseOp, srPair]
  | sqrt => simp [kernel, srSqrt, gate, arity, baseOp, srPair]
  | fma => simp [kernel, srFma, gate, arity, baseOp, srPair]

theorem kernel_sr_of_gate {op : Op} {x : Operands k} (h : gate op k x = true) :
    kernel .sr op k x = srDraw k (srPair op k x) := by
  rw [kernel_sr, if_pos h]

theorem kernel_ud_of_gate {op : Op} {x : Operands k} (h : gate op k x = true) :
    kernel .ud op k x = udRound k (baseOp op k x) := by
  rw [kernel_ud, udGate, if_pos h]

/-- Behind a closed gate both modes answer the plain result without a draw (R190, R205). -/
theorem kernel_of_not_gate (m : Mode) {op : Op} {x : Operands k} (h : gate op k x = false) :
    kernel m op k x = .plain (baseOp op k x) := by
  cases m with
  | sr => rw [kernel_sr, h, if_neg Bool.false_ne_true]
  | ud => rw [kernel_ud, udGate, h, if_neg Bool.false_ne_true]

theorem udRound_of_not_number {a : Pat k} (h : isNumber k a = false) : udRound k a = .plain a := by
  rw [udRound, h, if_neg Bool.false_ne_true]

/-- `ud_round` draws for the numbers only (R153). -/
theorem udRound_draws (a : Pat k) : (udRound k a).draws = isNumber k a := by
  cases h : isNumber k a with
  | true =>
    rw [udRound, if_pos h]
    rfl
  | false =>
    rw [udRound_of_not_number h]
    rfl

end

/-- Settles O47: behind an open gate an SR kernel is one draw and a UD kernel is `ud_round`. -/
theorem kernelGate : Obligations.KernelGate := by
  intro m op k x
  refine ⟨kernel_of_not_gate m, fun h => ?_, fun h => ?_, fun h hnumber => ?_⟩
  · rw [kernel_sr_of_gate h]
    rfl
  · rw [kernel_ud_of_gate h, udRound_draws]
  · rw [kernel_ud_of_gate h, udRound_of_not_number hnumber]

/-- Settles O48: the pair of each operation is the one its rule states. -/
theorem srKernelValue : Obligations.SrKernelValue := by
  intro op k x r h
  rw [kernel_sr_of_gate h]
  cases op <;> rfl

end Sys2Proof.Machine
end

section
/-! The SR result moves by one pattern at most: O58 (spec/42_rounding.md R150, R151; spec/44_kernels_sr.md R191,
R198). Read as a number, the pattern of a significand and an exponent grows with its magnitude, through the carry
into the next binade up to the infinities; so `sigma` moved by its ulp is the neighbouring pattern exactly. -/

namespace Sys2Proof.Machine

section
variable {k : Kind}

/-! The order of the packed patterns (R111, R116). -/

theorem pack_toNat_of_lt (s : Bool) {e : ℤ} {f : ℕ} (h : RoundedPair k e f) (hf : f < 2 ^ (k.mant + 1))
    (he : e ≤ k.emax) :
    (pack k s e f).toNat =
      2 ^ (k.expBits + k.mant) * s.toNat + ((e - k.emin).toNat * 2 ^ k.mant + f) := by
  have hemin := emin_eq k
  have hall := expAll_eq k
  have hlow := h.emin_le
  obtain hsub | hnormal := lt_or_ge f (2 ^ k.mant)
  · have heq : e = k.emin := h.leading.resolve_left hsub.not_ge
    rw [pack_subnormal s he hsub, ofFields_toNat s (Nat.zero_le _) hsub, heq, sub_self, Int.toNat_zero]
  · have hexp : (e + k.bias).toNat = (e - k.emin).toNat + 1 := by omega
    rw [Nat.pow_succ] at hf
    rw [pack_normal s he hnormal (by rwa [Nat.pow_succ]), ofFields_toNat s (by omega) (by omega), hexp,
      Nat.succ_mul]
    omega

/-- The same with the carry, which reaches the infinities from the last binade. -/
theorem pack_toNat (s : Bool) {e : ℤ} {f : ℕ} (h : RoundedPair k e f) (he : e ≤ k.emax) :
    (pack k s e f).toNat =
      2 ^ (k.expBits + k.mant) * s.toNat + ((e - k.emin).toNat * 2 ^ k.mant + f) := by
  obtain hlt | rfl := h.le_carry.lt_or_eq
  · exact pack_toNat_of_lt s h hlt he
  have hlow := h.emin_le
  have hpow : 2 ^ k.mant < 2 ^ (k.mant + 1) := Nat.pow_lt_pow_succ one_lt_two
  have hcarry : (e + 1 - k.emin).toNat = (e - k.emin).toNat + 1 := by omega
  have hbelow : (pack k s (e + 1) (2 ^ k.mant)).toNat =
      2 ^ (k.expBits + k.mant) * s.toNat + ((e + 1 - k.emin).toNat * 2 ^ k.mant + 2 ^ k.mant) := by
    obtain hmax | hmax := le_or_gt (e + 1) k.emax
    · exact pack_toNat_of_lt s ⟨by omega, hpow.le, .inl le_rfl⟩ hpow hmax
    · have hexp : expAll k = (e + 1 - k.emin).toNat + 1 := by
        have hemin := emin_eq k
        have hall := expAll_eq k
        omega
      rw [pack_overflow s hpow.ne hmax, ofFields_toNat s le_rfl (Nat.two_pow_pos _), hexp, Nat.succ_mul,
        Nat.add_zero]
  rw [pack_carry, hbelow, hcarry, Nat.succ_mul, Nat.pow_succ]
  omega

/-- A finite pattern as a number (R111). -/
theorem toNat_eq_exponent_significand {x : Pat k} (h : isFinite k x = true) :
    x.toNat = 2 ^ (k.expBits + k.mant) * (sign k x).toNat +
      ((getExponent k x - k.emin).toNat * 2 ^ k.mant + significand k x) := by
  conv_lhs => rw [← pack_self h]
  exact pack_toNat_of_lt _ ⟨emin_le_getExponent x, (significand_lt x).le, leading_significand x⟩
    (significand_lt x) (getExponent_le_emax h)

/-! Signed values. -/

/-- The value of the sign `s` and the magnitude `a` (R115). -/
def signed (s : Bool) (a : ℚ) : ℚ := if s then -a else a

theorem val_eq_signed (x : Pat k) : val k x = signed (sign k x) (magnitude k x) := rfl

@[simp] theorem signed_zero (s : Bool) : signed s 0 = 0 := by cases s <;> simp [signed]

theorem signed_add (s : Bool) (a b : ℚ) : signed s a + signed s b = signed s (a + b) := by
  cases s
  · rfl
  · exact (neg_add a b).symm

theorem signed_add_not (s : Bool) (a b : ℚ) : signed s a + signed (!s) b = signed s (a - b) := by
  cases s
  · exact (sub_eq_add_neg a b).symm
  · exact (neg_add_eq_sub a b).trans (neg_sub a b).symm

theorem abs_signed (s : Bool) {a : ℚ} (ha : 0 ≤ a) : |signed s a| = a := by
  cases s
  · exact abs_of_nonneg ha
  · exact (abs_neg a).trans (abs_of_nonneg ha)

theorem decide_signed_neg (s : Bool) {a : ℚ} (ha : 0 < a) : decide (signed s a < 0) = s := by
  cases s
  · exact decide_eq_false ha.not_gt
  · exact decide_eq_true (neg_neg_of_pos ha)

/-! Rounding the value of a pair (R116). -/

/-- The end of a binade, in units of its spacing. -/
theorem carry_mul_zpow (k : Kind) (e : ℤ) : ((2 ^ (k.mant + 1) : ℕ) : ℚ) * 2 ^ (e - k.mant) = 2 ^ (e + 1) := by
  rw [two_pow_mul_zpow]
  congr 1
  push_cast
  ring

theorem roundNearest_signed_of_lt (s zs : Bool) {e : ℤ} {f : ℕ} (h : RoundedPair k e f) (hpos : 0 < f)
    (hf : f < 2 ^ (k.mant + 1)) : roundNearest k (signed s (f * 2 ^ (e - k.mant))) zs = pack k s e f := by
  have ha : (0 : ℚ) < f * 2 ^ (e - k.mant) := mul_pos (Nat.cast_pos.mpr hpos) (two_zpow_pos _)
  have hne : signed s (f * 2 ^ (e - k.mant)) ≠ 0 := by
    rw [← abs_pos, abs_signed s ha.le]
    exact ha
  have hround : roundExp k (f * 2 ^ (e - k.mant)) = e := by
    have hhigh := mul_lt_mul_of_pos_right (Nat.cast_lt.mpr hf) (two_zpow_pos (e - k.mant))
    rw [carry_mul_zpow] at hhigh
    refine roundExp_unique ha h.emin_le hhigh (h.leading.imp_left fun hle => ?_)
    calc (2 : ℚ) ^ e = (2 ^ k.mant : ℕ) * 2 ^ (e - k.mant) := by rw [two_pow_mul_zpow, add_sub_cancel]
      _ ≤ f * 2 ^ (e - k.mant) := mul_le_mul_of_nonneg_right (Nat.cast_le.mpr hle) (two_zpow_pos _).le
  rw [roundNearest_eq hne, abs_signed s ha.le, decide_signed_neg s ha, scaled, hround,
    mul_div_cancel_right₀ _ (two_zpow_pos _).ne', nearestEven_natCast]

/-- A pair with a positive significand is rounded to its own pattern, the carry included. -/
theorem roundNearest_signed (s zs : Bool) {e : ℤ} {f : ℕ} (h : RoundedPair k e f) (hpos : 0 < f) :
    roundNearest k (signed s (f * 2 ^ (e - k.mant))) zs = pack k s e f := by
  obtain hlt | rfl := h.le_carry.lt_or_eq
  · exact roundNearest_signed_of_lt s zs h hpos hlt
  have hpow : 2 ^ k.mant < 2 ^ (k.mant + 1) := Nat.pow_lt_pow_succ one_lt_two
  have hpair : RoundedPair k (e + 1) (2 ^ k.mant) :=
    ⟨h.emin_le.trans (lt_add_one e).le, hpow.le, .inl le_rfl⟩
  have hvalue : ((2 ^ (k.mant + 1) : ℕ) : ℚ) * 2 ^ (e - k.mant) = (2 ^ k.mant : ℕ) * 2 ^ (e + 1 - k.mant) := by
    rw [carry_mul_zpow, two_pow_mul_zpow, add_sub_cancel]
  rw [hvalue, pack_carry]
  exact roundNearest_signed_of_lt s zs hpair (Nat.two_pow_pos _) hpow

/-- In value this holds of the zero pair as well, whose rounding has the sign `zs`. -/
theorem extVal_roundNearest_signed (s zs : Bool) {e : ℤ} {f : ℕ} (h : RoundedPair k e f) :
    extVal k (roundNearest k (signed s (f * 2 ^ (e - k.mant))) zs) = extVal k (pack k s e f) := by
  obtain rfl | hpos := f.eq_zero_or_pos
  · have hmax : e ≤ k.emax := by
      have heq : e = k.emin := h.leading.resolve_left (Nat.two_pow_pos _).not_ge
      rw [heq]
      cases k <;> decide
    rw [pack_subnormal s hmax (Nat.two_pow_pos _), ← signBit_eq_ofFields, Nat.cast_zero, zero_mul, signed_zero,
      roundNearest, if_pos rfl, extVal_of_isZero (isZero_signBit k zs), extVal_of_isZero (isZero_signBit k s)]
  · rw [roundNearest_signed s zs h hpos]

/-! The ulp of `sr_round` (R150, R151). -/

/-- Setting the sign bit of a pattern without one leaves its other fields. -/
theorem or_signBit {x : Pat k} (h : sign k x = false) (s : Bool) :
    x ||| signBit k s = ofFields k s (expField k x) (mantField k x) := by
  conv_lhs => rw [← ofFields_self x, h]
  rw [ofFields, signBit, if_neg Bool.false_ne_true, BitVec.zero_or, BitVec.or_comm, ← BitVec.or_assoc, ofFields]

theorem srExponent_of_sign_eq {sigma tau : Pat k} (h : sign k tau = sign k sigma) :
    srExponent k sigma tau = getExponent k sigma := by
  rw [srExponent, h, bne_self_eq_false, if_neg Bool.false_ne_true]

theorem srExponent_bounds {sigma : Pat k} (tau : Pat k) (h : isNumber k sigma = true) :
    k.emin ≤ srExponent k sigma tau ∧ srExponent k sigma tau ≤ k.emax := by
  have hmin := emin_le_getExponent sigma
  have hmax := getExponent_le_emax (isFinite_of_isNumber h)
  rw [predecessorExponent k sigma tau h]
  split_ifs with hpower
  · obtain ⟨hemin, _⟩ := (power_above_emin_iff sigma).mp hpower.2
    omega
  · exact ⟨hmin, hmax⟩

/-- The ulp is finite and has the sign of `tau` and the spacing at its exponent as its value. -/
theorem srUlp_isFinite_and_val {sigma : Pat k} (tau : Pat k) (h : isNumber k sigma = true) :
    isFinite k (srUlp k sigma tau) = true ∧
      val k (srUlp k sigma tau) = signed (sign k tau) (2 ^ (srExponent k sigma tau - k.mant)) := by
  obtain ⟨hmin, hmax⟩ := srExponent_bounds tau h
  obtain ⟨hnumber, hval, -, -⟩ :=
    powersOfTwo k (srExponent k sigma tau - k.mant) (by omega) (by omega)
  have hsign : sign k (pow2 k (srExponent k sigma tau - k.mant)) = false := by
    rw [← Bool.not_eq_true, ← val_neg_iff hnumber, hval]
    exact (two_zpow_pos _).not_gt
  have hfields := or_signBit hsign (sign k tau)
  have he := expField_le (pow2 k (srExponent k sigma tau - k.mant))
  have ht := mantField_lt (pow2 k (srExponent k sigma tau - k.mant))
  have hmag : magnitude k (srUlp k sigma tau) = 2 ^ (srExponent k sigma tau - k.mant) := by
    rw [srUlp, hfields, magnitude, expField_ofFields _ he ht, mantField_ofFields _ he ht, ← magnitude, ← hval, val,
      hsign, if_neg Bool.false_ne_true]
  constructor
  · rw [srUlp, hfields, isFinite_iff, expField_ofFields _ he ht]
    exact (isFinite_iff _).mp (isFinite_of_isNumber hnumber)
  · rw [val_eq_signed, hmag, srUlp, hfields, sign_ofFields _ he ht]

theorem fadd_srUlp {sigma : Pat k} (tau : Pat k) (h : isNumber k sigma = true) :
    fadd k sigma (srUlp k sigma tau) =
      roundNearest k (signed (sign k sigma) (magnitude k sigma) +
        signed (sign k tau) (2 ^ (srExponent k sigma tau - k.mant))) (zeroSumSign k sigma (srUlp k sigma tau)) := by
  obtain ⟨hfin, hval⟩ := srUlp_isFinite_and_val tau h
  rw [fadd_of_isFinite (isFinite_of_isNumber h) hfin, val_eq_signed sigma, hval]

/-! The two neighbours (R154, R191). -/

/-- Away from zero: one more unit of the significand. -/
theorem extVal_fadd_srUlp_of_sign_eq {sigma tau : Pat k} (h : isNumber k sigma = true)
    (hsign : sign k tau = sign k sigma) :
    extVal k (fadd k sigma (srUlp k sigma tau)) = extVal k (sigma + 1#k.width) := by
  have hfin := isFinite_of_isNumber h
  have hpair : RoundedPair k (getExponent k sigma) (significand k sigma + 1) :=
    ⟨emin_le_getExponent sigma, significand_lt sigma, (leading_significand sigma).imp_left Nat.le_succ_of_le⟩
  have hnext : sigma + 1#k.width = pack k (sign k sigma) (getExponent k sigma) (significand k sigma + 1) := by
    apply BitVec.eq_of_toNat_eq
    rw [toNat_add_one_of_isNumber h, pack_toNat _ hpair (getExponent_le_emax hfin),
      toNat_eq_exponent_significand hfin]
    rfl
  have hsum : magnitude k sigma + 2 ^ (getExponent k sigma - k.mant) =
      (significand k sigma + 1 : ℕ) * 2 ^ (getExponent k sigma - k.mant) := by
    rw [magnitude_eq]
    push_cast
    ring
  rw [fadd_srUlp tau h, srExponent_of_sign_eq hsign, hsign, signed_add, hsum, hnext]
  exact extVal_roundNearest_signed _ _ hpair

/-- `f` units at the exponent `e` make the pattern below `x` in magnitude, one unit from it. -/
structure PairBelow (k : Kind) (x : Pat k) (e : ℤ) (f : ℕ) : Prop where
  pair : RoundedPair k e f
  le_emax : e ≤ k.emax
  magnitude_sub : magnitude k x - 2 ^ (e - k.mant) = f * 2 ^ (e - k.mant)
  position : (e - k.emin).toNat * 2 ^ k.mant + f + 1 =
    (getExponent k x - k.emin).toNat * 2 ^ k.mant + significand k x

/-- Below a power of two above `2^EMIN` is the last pattern of the binade below. -/
theorem pairBelow_of_power {x : Pat k} (h : isNumber k x = true) (hemin : k.emin < getExponent k x)
    (hsig : significand k x = 2 ^ k.mant) : PairBelow k x (getExponent k x - 1) (2 ^ (k.mant + 1) - 1) := by
  have hmax := getExponent_le_emax (isFinite_of_isNumber h)
  have hpos := Nat.two_pow_pos k.mant
  have hpow : 2 ^ (k.mant + 1) = 2 ^ k.mant * 2 := Nat.pow_succ 2 k.mant
  have hexp : (getExponent k x - k.emin).toNat = (getExponent k x - 1 - k.emin).toNat + 1 := by omega
  have hscale : (2 : ℚ) ^ (getExponent k x - k.mant) = 2 * 2 ^ (getExponent k x - 1 - k.mant) := by
    rw [← zpow_one_add₀ two_ne_zero]
    congr 1
    ring
  refine ⟨⟨by omega, by omega, .inl (by omega)⟩, by omega, ?_, ?_⟩
  · rw [magnitude_eq, hsig, hscale, hpow, Nat.cast_sub (by omega)]
    push_cast
    ring
  · rw [hexp, hsig, Nat.succ_mul]
    omega

/-- Below any other number is the significand less one, at the same exponent. -/
theorem pairBelow_of_not_power {x : Pat k} (h : isNumber k x = true)
    (hpower : ¬(k.emin < getExponent k x ∧ significand k x = 2 ^ k.mant)) :
    PairBelow k x (getExponent k x) (significand k x - 1) := by
  have hpos : 0 < significand k x := Nat.pos_of_ne_zero fun h0 =>
    ((isNumber_iff x).mp h).1 ((significand_eq_zero_iff x).mp h0)
  have hlt := significand_lt x
  have hmin := emin_le_getExponent x
  have hlead := leading_significand x
  refine ⟨⟨hmin, by omega, by omega⟩, getExponent_le_emax (isFinite_of_isNumber h), ?_, by omega⟩
  rw [magnitude_eq, Nat.cast_sub hpos]
  push_cast
  ring

/-- Step (3) of `sr_round` looks at the exponent of the pattern below. -/
theorem exists_pairBelow {sigma tau : Pat k} (h : isNumber k sigma = true) (hsign : sign k tau ≠ sign k sigma) :
    ∃ f, PairBelow k sigma (srExponent k sigma tau) f := by
  rw [predecessorExponent k sigma tau h]
  split_ifs with hpower
  · obtain ⟨hemin, hsig⟩ := (power_above_emin_iff sigma).mp hpower.2
    exact ⟨_, pairBelow_of_power h hemin hsig⟩
  · exact ⟨_, pairBelow_of_not_power h fun hp => hpower ⟨hsign, (power_above_emin_iff sigma).mpr hp⟩⟩

/-- The pair below is the pattern below. -/
theorem PairBelow.pack_eq {x : Pat k} {e : ℤ} {f : ℕ} (hbelow : PairBelow k x e f) (h : isNumber k x = true) :
    pack k (sign k x) e f = x - 1#k.width := by
  have hpred := toNat_sub_one_of_isNumber h
  have hposition := hbelow.position
  rw [toNat_eq_exponent_significand (isFinite_of_isNumber h)] at hpred
  apply BitVec.eq_of_toNat_eq
  rw [pack_toNat _ hbelow.pair hbelow.le_emax]
  omega

/-- Towards zero: the pattern below, in value where it is a zero. -/
theorem extVal_fadd_srUlp_of_sign_ne {sigma tau : Pat k} (h : isNumber k sigma = true)
    (hsign : sign k tau ≠ sign k sigma) :
    extVal k (fadd k sigma (srUlp k sigma tau)) = extVal k (sigma - 1#k.width) := by
  obtain ⟨f, hbelow⟩ := exists_pairBelow h hsign
  rw [fadd_srUlp tau h, Bool.eq_not.mpr hsign, signed_add_not, hbelow.magnitude_sub, ← hbelow.pack_eq h]
  exact extVal_roundNearest_signed _ _ hbelow.pair

/-- The perturbation is `+0` or the ulp (R150). -/
theorem srRound_eq_posZero_or_srUlp (sigma tau z : Pat k) :
    srRound k sigma tau z = posZero k ∨ srRound k sigma tau z = srUlp k sigma tau := by
  unfold srRound
  dsimp only
  split_ifs
  · exact .inl rfl
  · exact .inl rfl
  · exact .inr rfl
  · exact .inl rfl

end

/-- Settles O58: `sigma` stays, or moves by the ulp to the neighbour that the signs name. -/
theorem srMovesAtMostOneUlp : Obligations.SrMovesAtMostOneUlp := by
  intro k sigma tau z hnumber
  dsimp only [srFinish]
  obtain hzero | hulp := srRound_eq_posZero_or_srUlp sigma tau z
  · rw [hzero]
    exact .inl (extVal_fadd_posZero (isNan_eq_false_of_isFinite (isFinite_of_isNumber hnumber)))
  rw [hulp]
  by_cases hsign : sign k tau = sign k sigma
  · exact .inr (.inl ⟨hsign, extVal_fadd_srUlp_of_sign_eq hnumber hsign⟩)
  · exact .inr (.inr ⟨hsign, extVal_fadd_srUlp_of_sign_ne hnumber hsign⟩)

end Sys2Proof.Machine
end

section
/-! The register-operand kernel commands: O10, O11, O12 (spec/46_dispatch.md R221 to R223, R226, R229). Both
shapes are one loop that writes `RES`; the probe before it has no part in a draw, so a lane's result is the same
in every width. -/

namespace Sys2Proof.Machine

/-! What the probe does, and that it plays no part in a draw. -/

theorem probeAndBind_of_unselected {s : State} (h : s.dstate = .unselected) :
    probeAndBind s =
      { s with dstate := .bound, bound32 := s.params.hwLanes32.log2, bound64 := s.params.hwLanes64.log2 } := by
  rw [probeAndBind_eq, if_pos h]

theorem probeAndBind_of_not_unselected {s : State} (h : s.dstate ≠ .unselected) : probeAndBind s = s := by
  rw [probeAndBind_eq, if_neg h]

/-- Setting the dispatch state and the bound fields alone (R29, R226). -/
def setDispatch (d : DispatchState) (b32 b64 : BitVec 3) (s : State) : State :=
  { s with dstate := d, bound32 := b32, bound64 := b64 }

theorem probeAndBind_eq_setDispatch (s : State) : probeAndBind s =
    setDispatch (probeAndBind s).dstate (probeAndBind s).bound32 (probeAndBind s).bound64 s :=
  probeAndBind_frame s

theorem lazyInit_setDispatch (d : DispatchState) (b32 b64 : BitVec 3) (s : State) :
    lazyInit (setDispatch d b32 b64 s) = setDispatch d b32 b64 (lazyInit s) := by
  unfold lazyInit
  cases hinit : s.rngInit <;> cases hovr : s.seedOvrEn <;> simp [setDispatch, hinit, hovr, seedAll]

/-- What an element's lane function yields does not depend on whether the block is bound (R226, R228). -/
theorem drawnValue_probeAndBind {w : Nat} (l : Nat → Lane w) (s : State) (j : Nat) :
    drawnValue l (probeAndBind s) j = drawnValue l s j := by
  rw [probeAndBind_eq_setDispatch, drawnValue, lazyInit_setDispatch]
  rfl

/-! The closed form of both shapes. -/

theorem arith_lanes_le {i : Instr} {m : Mode} {flv : Flavor} {k : Kind} {lw : Nat} {op : Op}
    (hform : i.form = .arith m flv k lw op) : 2 ^ lw ≤ 16 :=
  Nat.pow_le_pow_right two_pos (arithShapeOk_le (arith_shape hform))

/-- The loop of kernel lanes, on the operands of any earlier state with the same inputs. -/
theorem respond_forLanes_kernelLane (m : Mode) (op : Op) (k : Kind) {n : Nat} (hn : n ≤ 16) {s s' : State}
    (hstart : KeepsInputs s s') :
    respond .ok (forLanes n (kernelLane m op k) s') = lanesToRes n (kernelLanes m op k s) s' := by
  rw [← respond_lanesWritten _ s' hn]
  refine congrArg (respond .ok) (forLanes_runToRes hn fun i t ht => ?_)
  rw [kernelLane, laneOperands_of_keepsInputs (hstart.trans ht)]
  rfl

/-- Settles O10: the scalar shape is the loop of one lane, without the probe. -/
theorem scalarKernelResult : Obligations.ScalarKernelResult := by
  intro i m k lw op s hform
  have hloop := respond_forLanes_kernelLane m op k (n := 1) (by decide) (.refl s)
  rw [exec_eq_effect, hform]
  exact congrArg Host.Outcome.next hloop

/-- Settles O11: the same loop over all lanes, after the probe. -/
theorem staticVectorResult : Obligations.StaticVectorResult := by
  intro i m k lw op s hform
  have hloop := respond_forLanes_kernelLane m op k (arith_lanes_le hform) (keepsInputs_probeAndBind s)
  rw [exec_eq_effect, hform]
  exact congrArg Host.Outcome.next hloop

/-! One lane's result. -/

theorem lanesToRes_res_getElem {w n : Nat} (l : Nat → Lane w) (s : State) {j : Fin 16} (hj : j.val < n) :
    (lanesToRes n l s).res[j] = (drawnValue l s j.val).setWidth 64 := by
  rw [← laneValue_drawBase l s hj]
  simp [lanesToRes, hj]

/-- The result of a lane names neither the flavor nor the width of the command (R229). -/
theorem exec_arith_res_getElem {i : Instr} {m : Mode} {flv : Flavor} {k : Kind} {lw : Nat} {op : Op}
    {s t : State} (hform : i.form = .arith m flv k lw op) (hflv : flv ≠ .dynamic) (ht : exec i s = .next t)
    {j : Fin 16} (hj : j.val < 2 ^ lw) :
    t.res[j] = (drawnValue (kernelLanes m op k s) s j.val).setWidth 64 := by
  cases flv with
  | none =>
    obtain rfl : lw = 0 := beq_iff_eq.mp (arith_shape hform)
    rw [scalarKernelResult i m k 0 op s hform] at ht
    cases ht
    exact lanesToRes_res_getElem _ s hj
  | static =>
    rw [staticVectorResult i m k lw op s hform] at ht
    cases ht
    rw [lanesToRes_res_getElem _ _ hj, drawnValue_probeAndBind]
  | dynamic => exact absurd rfl hflv

/-- Settles O12: both commands leave in lane `j` what `exec_arith_res_getElem` says. -/
theorem widthInvarianceOfResults : Obligations.WidthInvarianceOfResults := by
  intro i₁ i₂ m k lw₁ lw₂ op f₁ f₂ s t₁ t₂ hform₁ hform₂ hf₁ hf₂ ht₁ ht₂ j hj₁ hj₂
  rw [exec_arith_res_getElem hform₁ hf₁ ht₁ hj₁, exec_arith_res_getElem hform₂ hf₂ ht₂ hj₂]

end Sys2Proof.Machine
end

section
/-! Array commands beside other commands: O17, O18 (spec/46_dispatch.md R225, R229). An array command of no
elements only probes; one of up to 16 elements on the lane operands stores what the dynamic vector command
stores, as an element's result depends on no element after it. -/

namespace Sys2Proof.Machine

/-! No elements. -/

theorem arrayCheck_of_count_zero (op : Op) (k : Kind) {s : State} (h : s.count.toNat = 0) :
    arrayCheck op k s = .ok := by
  simp [arrayCheck, h]

/-- Settles O17: nothing is checked and the loop is empty. -/
theorem arrayOfNoElements : Obligations.ArrayOfNoElements := by
  intro i m k op s hform hcount
  have hzero : s.count.toNat = 0 := by rw [hcount]; rfl
  rw [exec_array_of_pass hform (arrayCheck_of_count_zero op k hzero), hzero]
  rfl

/-! The elements that come first. -/

theorem drawsBefore_congr {draws draws' : Nat → Bool} {n : Nat} (h : ∀ i < n, draws i = draws' i) (l : Nat) :
    drawsBefore draws l n = drawsBefore draws' l n := by
  rw [drawsBefore, drawsBefore]
  congr 1
  exact List.filter_congr fun i hi => by rw [h i (List.mem_range.mp hi)]

/-- The result of element `j` depends on its own lane function and on those of the elements before it (R221,
R225). -/
theorem drawnValue_congr {w : Nat} {l l' : Nat → Lane w} {j : Nat} (h : ∀ i ≤ j, l i = l' i) (s : State) :
    drawnValue l s j = drawnValue l' s j := by
  have hdraws : drawsBefore (fun i => (l i).draws) (lane j).val j =
      drawsBefore (fun i => (l' i).draws) (lane j).val j :=
    drawsBefore_congr (fun i hi => congrArg Lane.draws (h i hi.le)) _
  rw [drawnValue, drawnValue, elementStream, elementStream, hdraws, h j le_rfl]

/-! What the storing commands leave at `DST`. -/

theorem exec_dynamic_element {i : Instr} {m : Mode} {k : Kind} {lw : Nat} {op : Op} {s t : State}
    (hform : i.form = .arith m .dynamic k lw op) (hwf : Memory.wf s.mem = true)
    (hcheck : dynamicCheck k (2 ^ lw) s = .ok) (ht : exec i s = .next t) {j : Nat} (hj : j < 2 ^ lw) :
    readElement k t.mem (elementAddr k s.dst j) = drawnValue (kernelLanes m op k s) s j := by
  have hstored := dynamicLanes_stored m op hwf (dynamicCheck_bound hcheck)
  rw [exec_dynamic_of_pass hform hcheck] at ht
  cases ht
  rw [← drawnValue_probeAndBind, ← dst_of_keepsInputs (keepsInputs_probeAndBind s)]
  exact hstored.inside j hj

theorem exec_array_element {i : Instr} {m : Mode} {k : Kind} {op : Op} {s t : State}
    (hform : i.form = .array m k op) (hwf : Memory.wf s.mem = true) (hcheck : arrayCheck op k s = .ok)
    (ht : exec i s = .next t) {j : Nat} (hj : j < s.count.toNat) :
    readElement k t.mem (elementAddr k s.dst j) = drawnValue (kernelElements m op k s) s j := by
  have hstored := arrayElements_stored m hwf (Nat.zero_lt_of_lt hj) hcheck
  rw [exec_array_of_pass hform hcheck] at ht
  cases ht
  rw [← drawnValue_probeAndBind, ← dst_of_keepsInputs (keepsInputs_probeAndBind s)]
  exact hstored.inside j hj

/-- Settles O18: up to element `j` both commands run the same lane functions. -/
theorem arrayMatchesDynamicVector : Obligations.ArrayMatchesDynamicVector := by
  intro ia iv m k op lw s t u hforma hformv hwf hcount hchecka hcheckv hoperands ht hu j hj
  have hlanes : ∀ i ≤ j, kernelElements m op k s i = kernelLanes m op k s i := fun i hi =>
    congrArg (kernel m op k) (hoperands i (by omega))
  rw [exec_array_element hforma hwf hchecka ht hj,
    exec_dynamic_element hformv hwf hcheckv hu (by omega), drawnValue_congr hlanes]

end Sys2Proof.Machine
end

section
/-! The native lane counts: O9 (spec/46_dispatch.md R228, R229). States that differ in nothing but these counts
and the bound fields stay so through every operation of a command. -/

namespace Sys2Proof.Machine

/-- Setting the native lane counts and the bound fields alone (R7, R29). -/
def setLaneCounts (a b : LaneCount) (b32 b64 : BitVec 3) (s : State) : State :=
  { s with params := { s.params with hwLanes32 := a, hwLanes64 := b }, bound32 := b32, bound64 := b64 }

/-- `u` is `s` but for the native lane counts and the bound fields. -/
def SameButLaneCounts (s u : State) : Prop := ∃ a b b32 b64, u = setLaneCounts a b b32 b64 s

/-- An operation that keeps two such states alike. -/
def IgnoresLaneCounts (f : State → State) : Prop :=
  ∀ ⦃s u⦄, SameButLaneCounts s u → SameButLaneCounts (f s) (f u)

/-- A part of the state that shows neither the native lane counts nor the bound fields. -/
def HidesLaneCounts {α : Type} (f : State → α) : Prop :=
  ∀ a b b32 b64 s, f (setLaneCounts a b b32 b64 s) = f s

theorem IgnoresLaneCounts.comp {f g : State → State} (hf : IgnoresLaneCounts f) (hg : IgnoresLaneCounts g) :
    IgnoresLaneCounts fun s => f (g s) := fun _ _ h => hf (hg h)

/-- An operation that commutes with setting the counts and the bound fields ignores them. -/
theorem ignoresLaneCounts_of_commutes {f : State → State}
    (h : ∀ a b b32 b64 s, f (setLaneCounts a b b32 b64 s) = setLaneCounts a b b32 b64 (f s)) :
    IgnoresLaneCounts f := by
  rintro s _ ⟨a, b, b32, b64, rfl⟩
  exact ⟨a, b, b32, b64, h a b b32 b64 s⟩

/-! The operations of a command. -/

theorem ignoresLaneCounts_respond (c : Response) : IgnoresLaneCounts (respond c) :=
  ignoresLaneCounts_of_commutes fun _ _ _ _ _ => rfl

/-- The probe reads the counts, and writes what it reads to the bound fields only (R226). -/
theorem ignoresLaneCounts_probeAndBind : IgnoresLaneCounts probeAndBind := by
  rintro s _ ⟨a, b, b32, b64, rfl⟩
  by_cases hs : s.dstate = .unselected
  · rw [probeAndBind_of_unselected hs, probeAndBind_of_unselected (s := setLaneCounts a b b32 b64 s) hs]
    exact ⟨a, b, a.log2, b.log2, rfl⟩
  · rw [probeAndBind_of_not_unselected hs, probeAndBind_of_not_unselected (s := setLaneCounts a b b32 b64 s) hs]
    exact ⟨a, b, b32, b64, rfl⟩

theorem lazyInit_setLaneCounts (a b : LaneCount) (b32 b64 : BitVec 3) (s : State) :
    lazyInit (setLaneCounts a b b32 b64 s) = setLaneCounts a b b32 b64 (lazyInit s) := by
  unfold lazyInit
  cases hinit : s.rngInit <;> cases hovr : s.seedOvrEn <;> simp [setLaneCounts, hinit, hovr, seedAll]

theorem run_setLaneCounts {w : Nat} (l : Lane w) (i : Fin 16) (a b : LaneCount) (b32 b64 : BitVec 3)
    (s : State) :
    l.run i (setLaneCounts a b b32 b64 s) = ((l.run i s).1, setLaneCounts a b b32 b64 (l.run i s).2) := by
  cases l with
  | plain v => rfl
  | draw f =>
    simp only [Lane.run_draw, drawRaw_eq, lazyInit_setLaneCounts]
    rfl

/-- A lane whose lane function hides the counts, its result going to `RES`. -/
theorem ignoresLaneCounts_runToRes {w : Nat} {l : State → Lane w} (i : Fin 16) (hl : HidesLaneCounts l) :
    IgnoresLaneCounts fun s => runToRes (l s) i s :=
  ignoresLaneCounts_of_commutes fun a b b32 b64 s => by
    rw [hl, runToRes, run_setLaneCounts]
    rfl

/-- The same, the result going to memory at an address that hides them too. -/
theorem ignoresLaneCounts_runToMem (k : Kind) {l : State → Lane k.width} {addr : State → Nat} (i : Fin 16)
    (hl : HidesLaneCounts l) (haddr : HidesLaneCounts addr) :
    IgnoresLaneCounts fun s => runToMem k (l s) i (addr s) s :=
  ignoresLaneCounts_of_commutes fun a b b32 b64 s => by
    rw [hl, haddr, runToMem, run_setLaneCounts]
    rfl

/-- The common end of a command: a loop, then the response. -/
theorem ignoresLaneCounts_respond_forLanes {body : Nat → State → State} {start : State → State} (c : Response)
    (n : Nat) (hstart : IgnoresLaneCounts start) (hbody : ∀ i, IgnoresLaneCounts (body i)) :
    IgnoresLaneCounts fun s => respond c (forLanes n body (start s)) := by
  have hloop : IgnoresLaneCounts fun s => forLanes n body (start s) := by
    induction n with
    | zero => exact hstart
    | succ n ih => exact (hbody n).comp ih
  exact (ignoresLaneCounts_respond c).comp hloop

/-! Every form. -/

theorem ignoresLaneCounts_dynamicKernel (m : Mode) (op : Op) (k : Kind) (w : Nat) :
    IgnoresLaneCounts (dynamicKernel m op k w) := by
  intro s u h
  have hrun := ignoresLaneCounts_respond_forLanes (body := dynamicLane m op k) .ok w
    ignoresLaneCounts_probeAndBind
    fun i => ignoresLaneCounts_runToMem k (lane i) (fun _ _ _ _ _ => rfl) fun _ _ _ _ _ => rfl
  have hcheck : dynamicCheck k w u = dynamicCheck k w s := by
    obtain ⟨a, b, b32, b64, rfl⟩ := h
    rfl
  unfold dynamicKernel
  rw [hcheck]
  cases dynamicCheck k w s with
  | ok => exact hrun h
  | _ => exact ignoresLaneCounts_respond _ h

theorem ignoresLaneCounts_arrayKernel (m : Mode) (op : Op) (k : Kind) :
    IgnoresLaneCounts (arrayKernel m op k) := by
  intro s u h
  have hrun := ignoresLaneCounts_respond_forLanes (body := arrayElement m op k) .ok s.count.toNat
    ignoresLaneCounts_probeAndBind
    fun i => ignoresLaneCounts_runToMem k (lane i) (fun _ _ _ _ _ => rfl) fun _ _ _ _ _ => rfl
  obtain ⟨hcheck, hcount⟩ : arrayCheck op k u = arrayCheck op k s ∧ u.count = s.count := by
    obtain ⟨a, b, b32, b64, rfl⟩ := h
    exact ⟨rfl, rfl⟩
  unfold arrayKernel
  rw [hcheck, hcount]
  cases arrayCheck op k s with
  | ok => exact hrun h
  | _ => exact ignoresLaneCounts_respond _ h

theorem ignoresLaneCounts_formEffect (f : Form) : IgnoresLaneCounts (formEffect f) := by
  have loop {body : Nat → State → State} (n : Nat) (hbody : ∀ i, IgnoresLaneCounts (body i)) :
      IgnoresLaneCounts fun s => respond .ok (forLanes n body s) :=
    ignoresLaneCounts_respond_forLanes .ok n (fun _ _ h => h) hbody
  have lanes {w : Nat} {l : Nat → State → Lane w} (n : Nat) (hl : ∀ i, HidesLaneCounts (l i)) :
      IgnoresLaneCounts fun s => respond .ok (forLanes n (fun i t => runToRes (l i t) (lane i) t) s) :=
    loop n fun i => ignoresLaneCounts_runToRes (lane i) (hl i)
  cases f with
  | arith m flv k lw op =>
    cases flv with
    | none =>
      exact (ignoresLaneCounts_respond .ok).comp (ignoresLaneCounts_runToRes _ fun _ _ _ _ _ => rfl)
    | static =>
      exact ignoresLaneCounts_respond_forLanes .ok _ ignoresLaneCounts_probeAndBind fun i =>
        ignoresLaneCounts_runToRes (lane i) fun _ _ _ _ _ => rfl
    | dynamic => exact ignoresLaneCounts_dynamicKernel m op k _
  | array m k op => exact ignoresLaneCounts_arrayKernel m op k
  | prim k lw op =>
    cases op with
    | twosum => exact loop _ fun _ => ignoresLaneCounts_of_commutes fun _ _ _ _ _ => rfl
    | twoprod => exact loop _ fun _ => ignoresLaneCounts_of_commutes fun _ _ _ _ _ => rfl
    | srround => exact loop _ fun _ => ignoresLaneCounts_of_commutes fun _ _ _ _ _ => rfl
    | udround => exact lanes _ fun _ _ _ _ _ _ => rfl
  | rng op k lw =>
    have jumps {body : Nat → State → State} (hbody : ∀ i, IgnoresLaneCounts (body i)) :
        IgnoresLaneCounts fun s => respond .ok (forLanes (2 ^ lw) body (lazyInit s)) :=
      ignoresLaneCounts_respond_forLanes .ok _ (ignoresLaneCounts_of_commutes lazyInit_setLaneCounts) hbody
    cases op with
    | seed => exact ignoresLaneCounts_of_commutes fun _ _ _ _ _ => rfl
    | next => exact lanes _ fun _ _ _ _ _ _ => rfl
    | uniform => exact lanes _ fun _ _ _ _ _ _ => rfl
    | jump => exact jumps fun _ => ignoresLaneCounts_of_commutes fun _ _ _ _ _ => rfl
    | ljump => exact jumps fun _ => ignoresLaneCounts_of_commutes fun _ _ _ _ _ => rfl
  | sys op =>
    cases op with
    | nop => exact ignoresLaneCounts_respond .ok
    | probe => exact (ignoresLaneCounts_respond .ok).comp ignoresLaneCounts_probeAndBind

/-- Settles O9: the states before the command differ in the counts only, so those after it do in no more than
the counts and the bound fields. -/
theorem nativeLaneCountsDoNotMatter : Obligations.NativeLaneCountsDoNotMatter := by
  intro i s t a b h
  rw [exec_eq_effect] at h
  cases h
  obtain ⟨_, _, _, _, hafter⟩ :=
    ignoresLaneCounts_formEffect i.form ⟨a, b, s.bound32, s.bound64, rfl⟩
  refine ⟨_, exec_eq_effect i (setLaneCounts a b s.bound32 s.bound64 s), ?_⟩
  rw [hafter]
  rfl

end Sys2Proof.Machine
end

section
/-! System commands and the dispatch state: O5, O35 to O38 (spec/46_dispatch.md R226, R227, R230, R231, R234).
A form that probes binds unless a check rejects it; no other form writes what the probe writes. -/

namespace Sys2Proof.Machine

/-- Settles O5: every form has an effect. -/
theorem everyCommandCompletes : Obligations.EveryCommandCompletes := fun i s => ⟨_, exec_eq_effect i s⟩

/-! What the probe writes, through the commands. -/

/-- The dispatch state and the bound fields, which the probe writes together (R226). -/
def dispatchFields (s : State) : DispatchState × BitVec 3 × BitVec 3 := (s.dstate, s.bound32, s.bound64)

theorem dispatchFields_eq_iff (s t : State) :
    dispatchFields t = dispatchFields s ↔
      t.dstate = s.dstate ∧ t.bound32 = s.bound32 ∧ t.bound64 = s.bound64 := by
  simp only [dispatchFields, Prod.mk.injEq]

theorem dispatchFields_lazyInit (s : State) : dispatchFields (lazyInit s) = dispatchFields s := by
  rw [lazyInit_frame]
  rfl

theorem dispatchFields_run {w : Nat} (l : Lane w) (i : Fin 16) (s : State) :
    dispatchFields (l.run i s).2 = dispatchFields s := by
  rw [Lane.run_frame]
  rfl

theorem dispatchFields_runToRes {w : Nat} (l : Lane w) (i : Fin 16) (s : State) :
    dispatchFields (runToRes l i s) = dispatchFields s := dispatchFields_run l i s

theorem dispatchFields_runToMem (k : Kind) (l : Lane k.width) (i : Fin 16) (a : Nat) (s : State) :
    dispatchFields (runToMem k l i a s) = dispatchFields s := dispatchFields_run l i s

theorem dispatchFields_forLanes {body : Nat → State → State}
    (h : ∀ i t, dispatchFields (body i t) = dispatchFields t) (n : Nat) (s : State) :
    dispatchFields (forLanes n body s) = dispatchFields s :=
  forLanes_induct (fun _ t => dispatchFields t = dispatchFields s) rfl fun i t _ ht => (h i t).trans ht

/-- A form that does not probe leaves them alone: among the writes it allows only a probe would not. -/
theorem formEffect_of_not_probes {f : Form} (hf : probes f = false) (s : State) :
    dispatchFields (formEffect f s) = dispatchFields s := by
  refine commandWrites_keep dispatchFields (fun s t hwrite => ?_) (formEffect_commandWrites f s)
  cases hwrite with
  | bind hprobes => rw [hf] at hprobes; cases hprobes
  | init => exact dispatchFields_lazyInit s
  | _ => rfl

/-- A form that probes answers `OK` and leaves what the probe leaves, or it is rejected and leaves them alone
(R227, R253). -/
theorem formEffect_of_probes {f : Form} (hf : probes f = true) (s : State) :
    ((formEffect f s).err = .ok ∧ dispatchFields (formEffect f s) = dispatchFields (probeAndBind s)) ∨
    ((formEffect f s).err ≠ .ok ∧ dispatchFields (formEffect f s) = dispatchFields s) := by
  have probed {body : Nat → State → State} (n : Nat)
      (hbody : ∀ i t, dispatchFields (body i t) = dispatchFields t) :
      dispatchFields (respond .ok (forLanes n body (probeAndBind s))) = dispatchFields (probeAndBind s) :=
    dispatchFields_forLanes hbody n _
  cases f with
  | arith m flv k lw op =>
    cases flv with
    | none => cases hf
    | static => exact .inl ⟨rfl, probed _ fun _ _ => dispatchFields_runToRes _ _ _⟩
    | dynamic =>
      rw [formEffect]
      obtain ⟨-, hrun⟩ | ⟨hcheck, hreject⟩ := dynamicKernel_cases m op k (2 ^ lw) s
      · rw [hrun]
        exact .inl ⟨rfl, probed _ fun _ _ => dispatchFields_runToMem k _ _ _ _⟩
      · rw [hreject]
        exact .inr ⟨hcheck, rfl⟩
  | array m k op =>
    rw [formEffect]
    obtain ⟨-, hrun⟩ | ⟨hcheck, hreject⟩ := arrayKernel_cases m op k s
    · rw [hrun]
      exact .inl ⟨rfl, probed _ fun _ _ => dispatchFields_runToMem k _ _ _ _⟩
    · rw [hreject]
      exact .inr ⟨hcheck, rfl⟩
  | prim k lw op => cases hf
  | rng op k lw => cases hf
  | sys op =>
    cases op with
    | nop => cases hf
    | probe => exact .inl ⟨rfl, rfl⟩

/-- A command binds an `UNSELECTED` block, or it leaves alone what the probe writes. -/
theorem formEffect_binds_or_keeps (f : Form) (s : State) :
    ((probes f = true ∧ (formEffect f s).err = .ok ∧ s.dstate = .unselected) ∧
      (formEffect f s).dstate = .bound) ∨
    (¬(probes f = true ∧ (formEffect f s).err = .ok ∧ s.dstate = .unselected) ∧
      dispatchFields (formEffect f s) = dispatchFields s) := by
  cases hf : probes f with
  | false => exact .inr ⟨by simp, formEffect_of_not_probes hf s⟩
  | true =>
    obtain ⟨hok, hprobed⟩ | ⟨hrejected, hkept⟩ := formEffect_of_probes hf s
    · by_cases hs : s.dstate = .unselected
      · rw [probeAndBind_of_unselected hs] at hprobed
        exact .inl ⟨⟨rfl, hok, hs⟩, congrArg Prod.fst hprobed⟩
      · rw [probeAndBind_of_not_unselected hs] at hprobed
        exact .inr ⟨by simp [hs], hprobed⟩
    · exact .inr ⟨by simp [hrejected], hkept⟩

/-- Settles O37: either the condition of the statement holds and the command binds, or neither. -/
theorem whichCommandsProbe : Obligations.WhichCommandsProbe := by
  intro i s t h
  rw [exec_eq_effect] at h
  cases h
  obtain ⟨hcond, hbound⟩ | ⟨hcond, hkept⟩ := formEffect_binds_or_keeps i.form s
  · refine ⟨by rw [if_pos hcond, hbound], fun hnot => ?_⟩
    obtain ⟨hprobes, hok, hunselected⟩ := hcond
    simp [hprobes, hok, hunselected] at hnot
  · obtain ⟨hdstate, hbounds⟩ := (dispatchFields_eq_iff s _).mp hkept
    exact ⟨by rw [if_neg hcond, hdstate], fun _ => hbounds⟩

/-! `BOUND` and the step. -/

theorem writeRegister_dstate (n : Nat) (v : Word) (s : State) : (writeRegister n v s).dstate = s.dstate := by
  unfold writeRegister
  split_ifs
  · rw [writeControl_frame]
  all_goals rfl

theorem issue_keeps_bound {v : Word} {s t : State} (hs : s.dstate = .bound) (h : issue v s = .next t) :
    t.dstate = .bound := by
  cases hv : decode v with
  | ok i =>
    rw [issue_of_decode hv] at h
    rw [(whichCommandsProbe i s t h).1, hs]
    simp
  | error e =>
    rw [issue_of_error hv] at h
    cases h
    exact hs

theorem perform_keeps_bound {a : HostAction} {s t : State} (ha : a ≠ .resetBlock) (hs : s.dstate = .bound)
    (h : perform a s = .next t) : t.dstate = .bound := by
  cases a with
  | writeReg n v =>
    simp only [perform] at h
    split at h
    · exact issue_keeps_bound hs h
    · cases h
      rwa [writeRegister_dstate]
  | readReg n =>
    cases h
    exact hs
  | storeByte a v => rwa [hostStore_next h]
  | loadByte a => rwa [hostLoad_next h]
  | resetBlock => exact absurd rfl ha

/-- Settles O38: no action but a reset unbinds. -/
theorem boundIsTerminal : Obligations.BoundIsTerminal := by
  intro s t hs hreset h
  cases hp : s.pending with
  | nil =>
    rw [step_idle hp] at h
    cases h
    exact hs
  | cons a rest =>
    have ha : a ≠ .resetBlock := by
      rintro rfl
      exact hreset (by rw [hp]; rfl)
    rw [step_action hp] at h
    exact perform_keeps_bound (s := { s with pending := rest }) ha hs h

/-! The system commands. -/

/-- Settles O35: the word is the encoder's, and the effect is the response alone. -/
theorem nopResult : Obligations.NopResult :=
  ⟨(decode_eq_ok_iff _ _).mpr (by decide), exec_eq_effect .sysNop⟩

theorem exec_sysProbe (s : State) : exec .sysProbe s = .next (respond .ok (probeAndBind s)) :=
  exec_eq_effect .sysProbe s

/-- The example of R231: 16 native lanes of f32 and 8 of f64, `BOUND`, no error. -/
theorem statusWord_respond_probeAndBind_reset :
    statusWord (respond .ok (probeAndBind State.reset)) = 0x3402#64 := by
  rw [probeAndBind_of_unselected rfl]
  decide

/-- Settles O36: the probe on an unselected and on a bound block, and `STATUS` before and after it. -/
theorem probeResult : Obligations.ProbeResult := by
  refine ⟨(decode_eq_ok_iff _ _).mpr (by decide), fun s => ⟨fun hs => ?_, fun hs => ?_⟩,
    statusWord_eq_zero rfl rfl rfl rfl, fun t ht => ?_⟩
  · rw [exec_sysProbe, probeAndBind_of_unselected hs]
    rfl
  · rw [exec_sysProbe, probeAndBind_of_not_unselected (by simp [hs])]
    rfl
  · rw [exec_sysProbe] at ht
    cases ht
    exact statusWord_respond_probeAndBind_reset

end Sys2Proof.Machine
end

section
/-! Commands that respond with an error: O6 (spec/60_exceptions.md R251 to R253). Only the checks of the
commands that store to memory reject; a rejected command is its response and nothing more. -/

namespace Sys2Proof.Machine

/-! The codes the checks answer (R252). -/

/-- A dynamic vector command's checks answer `OK`, `ERR_ALIGN` or `ERR_RANGE`. -/
theorem dynamicCheck_ne_illegal (k : Kind) (w : Nat) (s : State) : dynamicCheck k w s ≠ .illegal := by
  unfold dynamicCheck
  split_ifs <;> simp

/-- An array command's checks answer `OK`, `ERR_ALIGN`, `ERR_RANGE` or `ERR_OVERLAP`. -/
theorem arrayCheck_ne_illegal (op : Op) (k : Kind) (s : State) : arrayCheck op k s ≠ .illegal := by
  rcases Nat.eq_zero_or_pos s.count.toNat with hzero | hpos
  · simp [arrayCheck_of_count_zero op k hzero]
  · rw [arrayCheck_eq op k hpos]
    split_ifs <;> simp

/-! The response of a command. -/

/-- A command that does not store to memory has no check to fail (R251). -/
theorem formEffect_err_of_not_usesMemory {f : Form} (hf : usesMemory f = false) (s : State) :
    (formEffect f s).err = .ok := by
  cases f with
  | arith m flv k lw op =>
    cases flv with
    | none => rfl
    | static => rfl
    | dynamic => cases hf
  | array m k op => cases hf
  | prim k lw op => cases op <;> rfl
  | rng op k lw => cases op <;> rfl
  | sys op => cases op <;> rfl

/-- A command that stores to memory answers `OK`, or it is its response, which is not `ERR_ILLEGAL`
(R251, R253). -/
theorem formEffect_of_usesMemory {f : Form} (hf : usesMemory f = true) (s : State) :
    (formEffect f s).err = .ok ∨ ∃ c, c ≠ .illegal ∧ formEffect f s = respond c s := by
  cases f with
  | arith m flv k lw op =>
    cases flv with
    | none => cases hf
    | static => cases hf
    | dynamic =>
      rw [formEffect]
      obtain ⟨-, hrun⟩ | ⟨-, hreject⟩ := dynamicKernel_cases m op k (2 ^ lw) s
      · rw [hrun]
        exact .inl rfl
      · exact .inr ⟨_, dynamicCheck_ne_illegal k _ s, hreject⟩
  | array m k op =>
    rw [formEffect]
    obtain ⟨-, hrun⟩ | ⟨-, hreject⟩ := arrayKernel_cases m op k s
    · rw [hrun]
      exact .inl rfl
    · exact .inr ⟨_, arrayCheck_ne_illegal op k s, hreject⟩
  | prim k lw op => cases hf
  | rng op k lw => cases hf
  | sys op => cases hf

/-- A command that responds with an error is its response: it stores to memory when it succeeds, and the
code is not `ERR_ILLEGAL`. -/
theorem exec_rejected {i : Instr} {s t : State} (h : exec i s = .next t) (herr : t.err ≠ .ok) :
    usesMemory i.form = true ∧ t.err ≠ .illegal ∧ t = respond t.err s := by
  rw [exec_eq_effect] at h
  cases h
  cases hf : usesMemory i.form with
  | false => exact absurd (formEffect_err_of_not_usesMemory hf s) herr
  | true =>
    obtain hok | ⟨c, hc, hreject⟩ := formEffect_of_usesMemory hf s
    · exact absurd hok herr
    · rw [hreject]
      exact ⟨rfl, hc, rfl⟩

/-- Settles O6: the written value is a command that a check rejects, or it is no command. -/
theorem errorResponseChangesErrOnly : Obligations.ErrorResponseChangesErrOnly := by
  intro s t v rest hp hstep herr
  rw [step_of_cmdWrite hp] at hstep
  cases hv : decode v with
  | ok i =>
    rw [issue_of_decode hv] at hstep
    obtain ⟨hmemory, hcode, hrejected⟩ := exec_rejected hstep herr
    refine ⟨hrejected, fun j hj => ?_⟩
    cases hj
    exact ⟨hmemory, hcode⟩
  | error e =>
    rw [issue_of_error hv] at hstep
    cases hstep
    exact ⟨rfl, fun j hj => nomatch hj⟩

end Sys2Proof.Machine
end

section
/-! Seeding against lazy initialisation: O24 (spec/70_reset_and_hazards.md R273). Both fill the streams by
`seedAll`, the one from the arguments of the command, the other from the override seed and the thread index. -/

namespace Sys2Proof.Machine

theorem exec_rngSeed (s : State) : exec .rngSeed s = .next (respond .ok (seedAll s.seedArg s.streamArg s)) :=
  exec_eq_effect .rngSeed s

/-- Where the override seed and the thread index are the arguments of `rng::seed`, the command is lazy
initialisation and the response. -/
theorem exec_rngSeed_eq_respond_lazyInit {s : State} (hinit : s.rngInit = false) (hovr : s.seedOvrEn = true)
    (hseed : s.seedOvr = s.seedArg) (hidx : s.tid = s.streamArg) :
    exec .rngSeed s = .next (respond .ok (lazyInit s)) := by
  rw [exec_rngSeed, lazyInit_of_override hinit hovr, hseed, hidx]

/-- Settles O24: the response leaves the streams and `CTRL.RNG_INIT` as lazy initialisation left them. -/
theorem seedEqualsLazyInitialisation : Obligations.SeedEqualsLazyInitialisation := by
  intro s t hinit hovr hseed hidx hexec
  rw [exec_rngSeed_eq_respond_lazyInit hinit hovr hseed hidx] at hexec
  cases hexec
  exact ⟨respond_streams _ .ok, respond_rngInit _ .ok⟩

end Sys2Proof.Machine
end
